-- ==== Sys2Proof/Word.lean ====
section
/-! DEFINITION. The word types of the block (00_scope.md R5, R8): bit 0 is the least significant bit, every value is
unsigned. -/

namespace Sys2Proof

/-- An LED slot, and the multiplex cursor: a number in [0,8) (R5, R26). Addition wraps after slot 7. -/
abbrev Slot := BitVec 3

/-- A mask over the 4 bus pins, bit i = pin i (R8, R27). -/
abbrev PinMask := BitVec 4

/-- The LED bitmask, bit k = slot k (R8, R22). -/
abbrev LedMask := BitVec 8

/-- The register selector field `SEL` (R39, R52). -/
abbrev Selector := BitVec 4

/-- The data buses `DIN` and `DOUT` (R52), and a counter of the timer bank zero-extended to them. -/
abbrev Word32 := BitVec 32

/-- A command word `CW` (R52). -/
abbrev CommandWord := BitVec 16

/-- An event word `EV` (R53). -/
abbrev EventWord := BitVec 2

/-- A bus pin, 0..3 (R5, R29). -/
abbrev Pin := Fin 4

end Sys2Proof
end

