-- ==== Sys2Proof/Config.lean ====
section
/-! DEFINITION. The configuration of the block (00_scope.md R6, R7), which nothing ever writes, the example
configuration `EX` (95_test_vectors.md, section 1), and the free values the spec leaves open (R91, R92). -/

namespace Sys2Proof

/-- The wiring of one LED: the bus pin at its anode and the bus pin at its cathode (R29). -/
structure Wire where
  anode : Pin
  cathode : Pin
deriving DecidableEq, Repr

/-- The parameters of R6. A pin outside 0..3 and a table row wider than 4 bits cannot be written down; every other
constraint is one of `ConfigCheck`. -/
structure Config where
  /-- `NPAT`: how many per-pattern delay counters there are. -/
  npat : Nat
  /-- `W_PD`. -/
  wPd : Nat
  /-- `W_DEB`. -/
  wDeb : Nat
  /-- `W_SHUT`. -/
  wShut : Nat
  /-- `W_WAKE`. -/
  wWake : Nat
  /-- `WIRING[0..7]`. -/
  wiring : Vector Wire 8
  /-- `LUT_DIR[0..7]`. -/
  lutDir : Vector PinMask 8
  /-- `LUT_LVL[0..7]`. -/
  lutLvl : Vector PinMask 8
  /-- `TICK_PERIOD` in microseconds; no rule of the block reads it (R115, D19). -/
  tickPeriodUs : Nat
  /-- `TICKS_IN_SLEEP`, a parameter of the environment; no rule of the block reads it (R101, D20). -/
  ticksInSleep : Bool
deriving DecidableEq, Repr

/-- The constraints of R7, R25 and R29 on a configuration, each a reason to refuse it. -/
inductive ConfigCheck where
  /-- `1 <= NPAT <= 12` (R7). -/
  | npatRange
  /-- `W_PD` in 1..32 (R7). -/
  | widthPd
  /-- `W_DEB` in 1..32 (R7). -/
  | widthDeb
  /-- `W_SHUT` in 1..32 (R7). -/
  | widthShut
  /-- `W_WAKE` in 1..32 (R7). -/
  | widthWake
  /-- An LED's anode and cathode are different pins (R29). -/
  | wiringPins
  /-- The 8 pairs of pins are pairwise distinct (R29). -/
  | wiringPairs
  /-- `LUT_DIR[k]` makes exactly the two pins of LED k outputs (R25). -/
  | lutDirRows
  /-- `LUT_LVL[k]` drives exactly the anode of LED k high (R25). -/
  | lutLvlRows
deriving DecidableEq, Repr

/-- `NPAT` as R6 takes it. -/
def Config.npatTaken : Nat := 3

/-- `EX` with the widths R6 takes (D35; 95_test_vectors.md, section 1). It is not the board's configuration (N1): the
spec gives none. -/
def Config.ex : Config where
  npat := Config.npatTaken
  wPd := 16
  wDeb := 8
  wShut := 8
  wWake := 32
  wiring := #v[⟨0, 1⟩, ⟨1, 0⟩, ⟨1, 2⟩, ⟨2, 1⟩, ⟨2, 3⟩, ⟨3, 2⟩, ⟨0, 2⟩, ⟨2, 0⟩]
  lutDir := #v[0b0011, 0b0011, 0b0110, 0b0110, 0b1100, 0b1100, 0b0101, 0b0101]
  lutLvl := #v[0b0001, 0b0010, 0b0010, 0b0100, 0b0100, 0b1000, 0b0001, 0b0100]
  tickPeriodUs := 125
  ticksInSleep := false

/-- FREE VALUE (R91, I9): whether, at the n-th free choice, an event that coincides with a host command is performed
before the command. See notes/assumptions/4.md and 6.md. -/
opaque Config.eventFirst : Nat → Bool

/-- FREE VALUE (R92, I10): whether, at the n-th free choice, a host command that coincides with RESET is still
performed after it (it may be dropped). See notes/assumptions/5.md. -/
opaque Config.keptAfterReset : Nat → Bool

end Sys2Proof
end

