-- ==== Sys2Proof/Syntax.lean ====
section
/-! DEFINITION. The operations of the block (30_encoding.md R51, R55), the words that carry them and the counters the
register selector names (20_memory.md R39). -/

namespace Sys2Proof

/-- The ten operations: one constructor per row of the opcode table. -/
inductive Instr where
  /-- NOP (R77). -/
  | nop
  /-- LED.SET k (R78). -/
  | ledSet (k : Slot)
  /-- LED.CLR k (R79). -/
  | ledClr (k : Slot)
  /-- LED.WR #m (R80). -/
  | ledWr (m : LedMask)
  /-- LED.RD (R81). -/
  | ledRd
  /-- TMR.WR sel, v with v the value on `DIN` (R83). -/
  | tmrWr (sel : Selector) (v : Word32)
  /-- TMR.RD sel (R84). -/
  | tmrRd (sel : Selector)
  /-- WAKE.CLR (R85). -/
  | wakeClr
  /-- TICK (R62). -/
  | tick
  /-- RESET (R104). -/
  | reset
deriving DecidableEq, Repr

/-- One word on one of the two input channels (R51): a command word with the data bus beside it, or an event word. -/
inductive InputWord where
  | command (cw : CommandWord) (din : Word32)
  | event (ev : EventWord)
deriving DecidableEq, Repr

/-- A register of the timer bank, as the selector map names it (R39). -/
inductive Counter where
  /-- `PD[i]`, a per-pattern delay (R30). -/
  | pd (i : Nat)
  /-- `DEB[0]`, the right button's debounce countdown (R31). -/
  | deb0
  /-- `DEB[1]`, the left button's debounce countdown (R31). -/
  | deb1
  /-- `SHUT`, the shutdown grace timer (R32). -/
  | shut
  /-- `WAKE`, the wake clock (R33). -/
  | wake
deriving DecidableEq, Repr

end Sys2Proof
end

