-- ==== Sys2Proof/Machine/State.lean ====
section
/-! DEFINITION. The state of the block (10_state.md R20), its configuration, the outputs of the last operation, what the
agents still present to it, and the state after reset (R36). Plain data. -/

namespace Sys2Proof.Machine

/-- A snapshot of the bus, taken after a write to it (R28). -/
structure Snapshot where
  dir : PinMask
  lvl : PinMask
deriving DecidableEq, Repr

/-- A host command as presented on the command channel: `CW` and, beside it, `DIN` (R51, R52). -/
structure HostCommand where
  cw : CommandWord
  din : Word32
deriving DecidableEq, Repr

/-- What arrives at the two channels together (R51): an event word, 0b00 when there is no event, and perhaps a host
command. With both, the operations coincide in the sense of R91 and R92. -/
structure Arrival where
  ev : EventWord
  command : Option HostCommand
deriving DecidableEq, Repr

/-- The block raises no exception (R86): there is no fault, and this type has no constructor, so no step can answer with
one. That is safe: a claim that no fault occurs says only what R86 says. -/
inductive Fault : Type
deriving DecidableEq, Repr

/-- The refusals, R88's closed list. A refusal marks a use the spec gives no meaning; no state changes and the model stops
(R9, R86). All are safe: nothing can be proved of a run beyond one. -/
inductive Refusal where
  /-- An instruction whose meaning the model has not reached; raised by `exec` only. Safe. -/
  | notModelled (mnemonic : String)
  /-- `IllegalCommand(CW)` (R57); raised by `step` when the word decodes to no operation. Safe. -/
  | illegalCommand (cw : CommandWord)
  /-- `IllegalEvent(EV = 0b11)` (R57); raised by `step`. Safe. -/
  | illegalEvent (ev : EventWord)
  /-- `ReservedSelector(s)` (R82); raised by `step` on the word and by TMR.WR and TMR.RD on the operand. Safe. -/
  | reservedSelector (s : Selector)
  /-- `WakeNotWritable` (R83); raised by `step` on the word and by TMR.WR on the operand. Safe. -/
  | wakeNotWritable
  /-- `BadConfiguration(check)` (R7); raised by `step` before anything runs. Safe. -/
  | badConfiguration (check : ConfigCheck)
deriving DecidableEq, Repr

/-- The state. A counter is held zero-extended to 32 bits (notes/assumptions/8.md); its width is the configuration's. -/
structure State where
  /-- The configuration, the constant tables among it (R6, R24); no operation writes it. -/
  cfg : Config
  /-- `LED` (R22). -/
  led : LedMask
  /-- `CUR` (R26). -/
  cur : Slot
  /-- `BUS_DIR`, 1 = output (R27). -/
  busDir : PinMask
  /-- `BUS_LVL`, 1 = high (R27). -/
  busLvl : PinMask
  /-- `PD[0..NPAT-1]` (R30), entry i being `PD[i]`. -/
  pd : List Word32
  /-- `DEB[0]` (R31). -/
  deb0 : Word32
  /-- `DEB[1]` (R31). -/
  deb1 : Word32
  /-- `SHUT` (R32). -/
  shut : Word32
  /-- `WAKE` (R33). -/
  wake : Word32
  /-- Output: the pin trace of the last operation, oldest snapshot first (R28). -/
  pinTrace : List Snapshot
  /-- Output: the value the last operation delivered on `DOUT`, if it was a read (R52). -/
  dout : Option Word32
  /-- The model's own: what the agents present, next first (R45, R51; notes/assumptions/3.md). -/
  inputs : List Arrival
  /-- The model's own: how many free choices have been drawn (notes/assumptions/18.md). -/
  choices : Nat
deriving DecidableEq, Repr

/-- The state RESET leaves, for a given configuration (R36, R104, R105): the launch state of every run. -/
def State.resetWith (c : Config) : State where
  cfg := c
  led := 0
  cur := 0
  busDir := 0
  busLvl := 0
  pd := List.replicate c.npat 0
  deb0 := 0
  deb1 := 0
  shut := 0
  wake := 0
  pinTrace := [⟨0, 0⟩]
  dout := none
  inputs := []
  choices := 0

/-- The machine right after reset. The spec leaves the wiring and the tables to configuration; DESIGN CHOICE: this one
state takes `EX` (notes/assumptions/2.md), and statements range over every configuration. -/
def State.reset : State := State.resetWith Config.ex

end Sys2Proof.Machine
end

