-- ==== Sys2Proof/Machine/Operands.lean ====
section
/-! DEFINITION. The operand forms (30_encoding.md R54, 20_memory.md R42, 42_timer_port.md R82): slot masks, table rows,
register selectors and their widths, and the truncation of a write value. -/

namespace Sys2Proof.Machine

/-- `1 << k`, 8 bits (R54, R64). -/
def slotMask (k : Slot) : LedMask := 1#8 <<< k.toNat

/-- `WIRING[k]` (R29). -/
def wireOf (c : Config) (k : Slot) : Wire := c.wiring.get k.toFin

/-- `LUT_DIR[k]` (R24). -/
def dirRow (c : Config) (k : Slot) : PinMask := c.lutDir.get k.toFin

/-- `LUT_LVL[k]` (R24). -/
def lvlRow (c : Config) (k : Slot) : PinMask := c.lutLvl.get k.toFin

/-- `1 << p`, 4 bits (R25). -/
def pinMask (p : Pin) : PinMask := 1#4 <<< p.val

/-- `reg(s)` (R82): the counter a selector names, `none` where R82 refuses. -/
def selected (npat : Nat) (s : Selector) : Option Counter :=
  if s.toNat < npat then some (.pd s.toNat)
  else if s = 0xC then some .deb0
  else if s = 0xD then some .deb1
  else if s = 0xE then some .shut
  else if s = 0xF then some .wake
  else none

/-- `W(X)`, the width of a counter (R6, R39). -/
def widthOf (c : Config) : Counter → Nat
  | .pd _ => c.wPd
  | .deb0 => c.wDeb
  | .deb1 => c.wDeb
  | .shut => c.wShut
  | .wake => c.wWake

/-- `zext_32(trunc_w(v))` (R8, R42, R54). -/
def truncTo (w : Nat) (v : Word32) : Word32 := (v.setWidth w).setWidth 32

/-- `zext_32(LED)` (R81). -/
def zextLed (m : LedMask) : Word32 := m.setWidth 32

end Sys2Proof.Machine
end

