-- ==== Sys2Proof/Machine/Flags.lean ====
section
/-! DEFINITION. The block has no flags and no condition codes (10_state.md R21). The two conditions a TICK computes and
holds in no register stand here. -/

namespace Sys2Proof.Machine

/-- `(LED & bit) != 0` with `bit = 1 << k` (R64). -/
def slotRequested (led : LedMask) (k : Slot) : Bool := led &&& slotMask k != 0

/-- The epoch condition: the cursor a TICK has just written is 0 (R21, R67). -/
def epochReached (newCur : Slot) : Bool := newCur == 0

end Sys2Proof.Machine
end

