-- ==== Sys2Proof/Machine/ConfigCheck.lean ====
section
/-! DEFINITION. The checks a configuration must pass before the model runs (00_scope.md R7, 10_state.md R25, R29). -/

namespace Sys2Proof.Machine

/-- The 8 slots in rising order (R5). -/
def allSlots : List Slot := [0, 1, 2, 3, 4, 5, 6, 7]

/-- A width in 1..32 (R7). -/
def widthInRange (w : Nat) : Bool := decide (1 ≤ w) && decide (w ≤ 32)

/-- Whether a configuration passes one check. -/
def passes (c : Config) : ConfigCheck → Bool
  | .npatRange => decide (1 ≤ c.npat) && decide (c.npat ≤ 12)
  | .widthPd => widthInRange c.wPd
  | .widthDeb => widthInRange c.wDeb
  | .widthShut => widthInRange c.wShut
  | .widthWake => widthInRange c.wWake
  | .wiringPins => allSlots.all fun k => (wireOf c k).anode != (wireOf c k).cathode
  | .wiringPairs => allSlots.all fun j => allSlots.all fun k => j == k || wireOf c j != wireOf c k
  | .lutDirRows =>
      allSlots.all fun k => dirRow c k == pinMask (wireOf c k).anode ||| pinMask (wireOf c k).cathode
  | .lutLvlRows => allSlots.all fun k => lvlRow c k == pinMask (wireOf c k).anode

/-- The checks in the order they are tried; the spec gives no order (notes/assumptions/9.md). -/
def allChecks : List ConfigCheck :=
  [.npatRange, .widthPd, .widthDeb, .widthShut, .widthWake, .wiringPins, .wiringPairs, .lutDirRows, .lutLvlRows]

/-- The first check that fails, `none` for a configuration that may run (R7). -/
def failedCheck (c : Config) : Option ConfigCheck := allChecks.find? fun k => !passes c k

/-- The configuration passes R7. -/
def configWf (c : Config) : Bool := (failedCheck c).isNone

end Sys2Proof.Machine
end

