-- ==== Sys2Proof/Machine/Pins.lean ====
section
/-! DEFINITION. What is seen of the bus: the state of each pin (10_state.md R28) and the LEDs a bus state lights (R29). -/

namespace Sys2Proof.Machine

/-- The state of one bus pin (R28). -/
inductive PinState where
  /-- High impedance. -/
  | z
  /-- Driven high. -/
  | h
  /-- Driven low. -/
  | l
deriving DecidableEq, Repr

/-- The state of pin p under a bus state (R28); the level bit of an input pin has no effect. -/
def pinState (dir lvl : PinMask) (p : Pin) : PinState :=
  if dir.getLsbD p.val then (if lvl.getLsbD p.val then .h else .l) else .z

/-- LED k is lit (R29): its anode pin drives high and its cathode pin drives low. The spec takes this from general
knowledge, and that series paths do not light: PRESUMED, notes/assumptions/13.md. -/
def litSlot (c : Config) (dir lvl : PinMask) (k : Slot) : Bool :=
  pinState dir lvl (wireOf c k).anode == .h && pinState dir lvl (wireOf c k).cathode == .l

/-- `Lit(dir, lvl)` (R29), the slots in rising order. -/
def lit (c : Config) (dir lvl : PinMask) : List Slot := allSlots.filter (litSlot c dir lvl)

/-- `Lit` of a snapshot (R28, R29). -/
def litBy (c : Config) (p : Snapshot) : List Slot := lit c p.dir p.lvl

/-- The snapshot of the bus as it stands. -/
def busNow (s : State) : Snapshot := ⟨s.busDir, s.busLvl⟩

end Sys2Proof.Machine
end

