-- ==== Sys2Proof/Machine/Ops.lean ====
section
/-! DEFINITION. The named operations over the block's state (00_scope.md R9), shared by the meanings.

The block has no exception to take and none to return from (60_exceptions.md R86): entering TICK saves no state, changes
no mode or mask and uses no stack or vector (R93), and a TICK ends when its last write is done, with nothing to restore
(R94). So no exception operation stands here (notes/assumptions/21.md); the tick interrupt is `execTick` itself. -/

namespace Sys2Proof.Machine

/-- The two bus registers a `BusWrite` may name (R9). -/
inductive BusReg where
  | dir
  | lvl
deriving DecidableEq, Repr

/-- An operation begins with an empty pin trace and nothing on `DOUT` (R28, R52). -/
def beginOp (s : State) : State := { s with pinTrace := [], dout := none }

/-- `return v`: the command delivers v on `DOUT` (R9). -/
def deliver (v : Word32) (s : State) : State := { s with dout := some v }

/-- Append the bus as it stands to the pin trace (R28). -/
def takeSnapshot (s : State) : State := { s with pinTrace := s.pinTrace ++ [busNow s] }

/-- `BusWrite(DIR, v)` and `BusWrite(LVL, v)` (R9): write one bus register, then take a snapshot. -/
def busWrite (r : BusReg) (v : PinMask) (s : State) : State :=
  match r with
  | .dir => takeSnapshot { s with busDir := v }
  | .lvl => takeSnapshot { s with busLvl := v }

/-- `LED <- m` (R9). -/
def setLed (m : LedMask) (s : State) : State := { s with led := m }

/-- `satdec(x)` (R9). -/
def satdec (x : Word32) : Word32 := if x = 0 then 0 else x - 1

/-- `inc_w(x)`, for x of w bits and w at most 32 (R9). -/
def incTo (w : Nat) (x : Word32) : Word32 := truncTo w (x + 1)

/-- The value of a counter, zero-extended (R42). A bank with no `PD[i]` is no state of the block
(notes/assumptions/20.md). -/
def readCounter (c : Counter) (s : State) : Word32 :=
  match c with
  | .pd i => s.pd.getD i 0
  | .deb0 => s.deb0
  | .deb1 => s.deb1
  | .shut => s.shut
  | .wake => s.wake

/-- Write a counter whole; v has the counter's width (R42, R43). -/
def writeCounter (c : Counter) (v : Word32) (s : State) : State :=
  match c with
  | .pd i => { s with pd := s.pd.set i v }
  | .deb0 => { s with deb0 := v }
  | .deb1 => { s with deb1 := v }
  | .shut => { s with shut := v }
  | .wake => { s with wake := v }

/-- TICK step 1 (R63): the baseline, level first. -/
def baseline (s : State) : State := busWrite .dir 0b1111 (busWrite .lvl 0b0000 s)

/-- TICK steps 2 and 3 (R64, R65): if slot k is requested, apply row k, direction first. -/
def applyRow (k : Slot) (s : State) : State :=
  if slotRequested s.led k then busWrite .lvl (lvlRow s.cfg k) (busWrite .dir (dirRow s.cfg k) s) else s

/-- The epoch bookkeeping (R68 to R71). -/
def epoch (s : State) : State :=
  { s with
    pd := s.pd.map satdec
    deb0 := satdec s.deb0
    deb1 := satdec s.deb1
    shut := satdec s.shut
    wake := incTo s.cfg.wWake s.wake }

/-- TICK step 4 (R66, R67): advance the cursor, and on the wrap do the epoch bookkeeping. -/
def advance (s : State) : State :=
  let moved := { s with cur := s.cur + 1 }
  if epochReached moved.cur then epoch moved else moved

/-- RESET's writes (R104): every state element to its value of R36, the bus registers both at once with one snapshot, the
configuration unchanged. -/
def clearAll (s : State) : State :=
  takeSnapshot
    { s with
      led := 0
      cur := 0
      pd := List.replicate s.cfg.npat 0
      deb0 := 0
      deb1 := 0
      shut := 0
      wake := 0
      busDir := 0
      busLvl := 0 }

end Sys2Proof.Machine
end

