-- ==== Sys2Proof/Machine/Events.lean ====
section
/-! DEFINITION. The events: TICK (40_tick.md R62) and RESET (70_reset_and_hazards.md R104). -/

namespace Sys2Proof.Machine

/-- TICK (R62): the slot serviced is the cursor's before it advances. -/
def execTick (s : State) : Host.Outcome State Fault Refusal :=
  .next (advance (applyRow s.cur (baseline (beginOp s))))

/-- RESET (R104). -/
def execReset (s : State) : Host.Outcome State Fault Refusal :=
  .next (clearAll (beginOp s))

end Sys2Proof.Machine
end

