-- ==== Sys2Proof/Machine/LedPort.lean ====
section
/-! DEFINITION. The host LED commands (41_led_port.md R77 to R81). -/

namespace Sys2Proof.Machine

/-- NOP (R77). -/
def execNop (s : State) : Host.Outcome State Fault Refusal := .next (beginOp s)

/-- LED.SET k: `LED <- LED | (1 << k)` (R78). -/
def execLedSet (k : Slot) (s : State) : Host.Outcome State Fault Refusal :=
  .next (setLed (s.led ||| slotMask k) (beginOp s))

/-- LED.CLR k: `LED <- LED & ~(1 << k)` (R79). -/
def execLedClr (k : Slot) (s : State) : Host.Outcome State Fault Refusal :=
  .next (setLed (s.led &&& ~~~slotMask k) (beginOp s))

/-- LED.WR #m: `LED <- m` (R80). -/
def execLedWr (m : LedMask) (s : State) : Host.Outcome State Fault Refusal :=
  .next (setLed m (beginOp s))

/-- LED.RD: `return zext_32(LED)` (R81). -/
def execLedRd (s : State) : Host.Outcome State Fault Refusal :=
  .next (deliver (zextLed s.led) (beginOp s))

end Sys2Proof.Machine
end

