-- ==== Sys2Proof/Machine/TimerPort.lean ====
section
/-! DEFINITION. The host timer-bank commands (42_timer_port.md R82 to R85). -/

namespace Sys2Proof.Machine

/-- TMR.WR sel, v (R83). -/
def execTmrWr (sel : Selector) (v : Word32) (s : State) : Host.Outcome State Fault Refusal :=
  if sel = 0xF then .refused .wakeNotWritable
  else
    match selected s.cfg.npat sel with
    | none => .refused (.reservedSelector sel)
    | some c => .next (writeCounter c (truncTo (widthOf s.cfg c) v) (beginOp s))

/-- TMR.RD sel (R84). -/
def execTmrRd (sel : Selector) (s : State) : Host.Outcome State Fault Refusal :=
  match selected s.cfg.npat sel with
  | none => .refused (.reservedSelector sel)
  | some c => .next (deliver (readCounter c s) (beginOp s))

/-- WAKE.CLR: `WAKE <- 0` (R85). -/
def execWakeClr (s : State) : Host.Outcome State Fault Refusal :=
  .next (writeCounter .wake 0 (beginOp s))

end Sys2Proof.Machine
end

