-- ==== Sys2Proof/Machine/Dispatch.lean ====
section
/-! DEFINITION. The dispatch of an operation to its meaning, one arm per row of the opcode table. -/

namespace Sys2Proof.Machine

def exec (i : Instr) (s : State) : Host.Outcome State Fault Refusal :=
  match i with
  | .nop => Sys2Proof.Machine.execNop s
  | .ledSet k => Sys2Proof.Machine.execLedSet k s
  | .ledClr k => Sys2Proof.Machine.execLedClr k s
  | .ledWr m => Sys2Proof.Machine.execLedWr m s
  | .ledRd => Sys2Proof.Machine.execLedRd s
  | .tmrWr sel v => Sys2Proof.Machine.execTmrWr sel v s
  | .tmrRd sel => Sys2Proof.Machine.execTmrRd sel s
  | .wakeClr => Sys2Proof.Machine.execWakeClr s
  | .tick => Sys2Proof.Machine.execTick s
  | .reset => Sys2Proof.Machine.execReset s

end Sys2Proof.Machine
end

