-- ==== Sys2Proof/WellFormed.lean ====
section
/-! DEFINITION. Which operations are well formed: the "extra validity" column of 30_encoding.md R55. Every other operand
is legal at every value of its type. -/

namespace Sys2Proof

/-- A selector that TMR.WR may name (R55, R83). -/
def tmrWrLegal (npat : Nat) (s : Selector) : Bool :=
  decide (s.toNat < npat) || s == 0xC || s == 0xD || s == 0xE

/-- A selector that TMR.RD may name (R55, R84). -/
def tmrRdLegal (npat : Nat) (s : Selector) : Bool :=
  decide (s.toNat < npat) || s == 0xC || s == 0xD || s == 0xE || s == 0xF

/-- The operation has a legal word when there are `npat` per-pattern delays (R55, R59). -/
def Instr.wf (npat : Nat) : Instr → Bool
  | .nop => true
  | .ledSet _ => true
  | .ledClr _ => true
  | .ledWr _ => true
  | .ledRd => true
  | .tmrWr sel _ => tmrWrLegal npat sel
  | .tmrRd sel => tmrRdLegal npat sel
  | .wakeClr => true
  | .tick => true
  | .reset => true

end Sys2Proof
end

