-- ==== Sys2Proof/Decode.lean ====
section
/-! DEFINITION. Decoding of command and event words (30_encoding.md R51 to R57), total on every word and rejecting by
name, and the encoder, written from the patterns of R55. -/

namespace Sys2Proof

/-- Why a word is no operation (R57, R82, R83, R88). -/
inductive Reject where
  /-- `IllegalCommand(CW)`. -/
  | illegalCommand (cw : CommandWord)
  /-- `IllegalEvent(EV)`. -/
  | illegalEvent (ev : EventWord)
  /-- `ReservedSelector(s)`. -/
  | reservedSelector (s : Selector)
  /-- `WakeNotWritable`. -/
  | wakeNotWritable
deriving DecidableEq, Repr

/-- What a word means. -/
inductive Decoded where
  /-- The word is this operation. -/
  | op (i : Instr)
  /-- `EV = 0b00`: no operation this step (R53). -/
  | nothing
  /-- The word is illegal. -/
  | rejected (r : Reject)
deriving DecidableEq, Repr

/-- `CW[15:12]` (R52). -/
def opField (cw : CommandWord) : BitVec 4 := cw.extractLsb' 12 4

/-- `CW[11:8]` (R52). -/
def selField (cw : CommandWord) : Selector := cw.extractLsb' 8 4

/-- `CW[7:0]` (R52). -/
def immField (cw : CommandWord) : BitVec 8 := cw.extractLsb' 0 8

/-- `k = SEL[2:0]` (R54). -/
def slotField (cw : CommandWord) : Slot := cw.extractLsb' 8 3

/-- A row of the command opcode map (R55). -/
structure CommandRow where
  mnemonic : String
  mask : CommandWord
  matchBits : CommandWord
  /-- The operation the word stands for, its operands assembled as R54 says. -/
  operation : CommandWord → Word32 → Instr

/-- The command opcode map (R55), less its reserved row. -/
def commandRows : List CommandRow :=
  [ ⟨"NOP", 0xFFFF, 0x0000, fun _ _ => .nop⟩,
    ⟨"LED.SET", 0xF8FF, 0x1000, fun cw _ => .ledSet (slotField cw)⟩,
    ⟨"LED.CLR", 0xF8FF, 0x2000, fun cw _ => .ledClr (slotField cw)⟩,
    ⟨"LED.WR", 0xFF00, 0x3000, fun cw _ => .ledWr (immField cw)⟩,
    ⟨"LED.RD", 0xFFFF, 0x4000, fun _ _ => .ledRd⟩,
    ⟨"TMR.WR", 0xF0FF, 0x5000, fun cw din => .tmrWr (selField cw) din⟩,
    ⟨"TMR.RD", 0xF0FF, 0x6000, fun cw _ => .tmrRd (selField cw)⟩,
    ⟨"WAKE.CLR", 0xFFFF, 0x7000, fun _ _ => .wakeClr⟩ ]

/-- `(CW & mask) == match` (R56). -/
def CommandRow.hits (r : CommandRow) (cw : CommandWord) : Bool :=
  cw &&& r.mask == r.matchBits

/-- `(CW & mask) == match and valid(CW)` (R56), the validity being that of R55. -/
def CommandRow.accepts (r : CommandRow) (npat : Nat) (cw : CommandWord) (din : Word32) : Bool :=
  r.hits cw && (r.operation cw din).wf npat

/-- The reason an illegal command word is refused under (R57): a TMR word with a selector it may not name has R82's or
R83's reason, every other illegal word is `IllegalCommand`. DEDUCED from the vectors L9 to L13, M5, M6, M10 and M11: see
notes/assumptions/10.md. -/
def rejectCommand (cw : CommandWord) : Reject :=
  if immField cw = 0 then
    if opField cw = 0x5 then
      if selField cw = 0xF then .wakeNotWritable else .reservedSelector (selField cw)
    else if opField cw = 0x6 then .reservedSelector (selField cw)
    else .illegalCommand cw
  else .illegalCommand cw

/-- The first row that accepts the word says what it is (the loop of R56). -/
def decodeIn (npat : Nat) (cw : CommandWord) (din : Word32) : List CommandRow → Decoded
  | [] => .rejected (rejectCommand cw)
  | r :: rest => if r.accepts npat cw din then .op (r.operation cw din) else decodeIn npat cw din rest

/-- Decoding of a command word (R56). -/
def decodeCommand (npat : Nat) (cw : CommandWord) (din : Word32) : Decoded :=
  decodeIn npat cw din commandRows

/-- Decoding of an event word (R53, R56). -/
def decodeEvent (ev : EventWord) : Decoded :=
  if ev = 0b00 then .nothing
  else if ev = 0b01 then .op .tick
  else if ev = 0b10 then .op .reset
  else .rejected (.illegalEvent ev)

/-- Decoding of a word on its own channel (R51). It depends on no state, only on `NPAT` (R59). -/
def decodeWord (npat : Nat) : InputWord → Decoded
  | .command cw din => decodeCommand npat cw din
  | .event ev => decodeEvent ev

/-- The word `OP : SEL : IMM` (R52). -/
def commandWord (op : BitVec 4) (sel : Selector) (imm : BitVec 8) : CommandWord :=
  op ++ sel ++ imm

/-- The encoder: the word of an operation, from the patterns of R55 and the event words of R53. A command that ignores
`DIN` is given `DIN = 0` (notes/assumptions/19.md). -/
def encode : Instr → InputWord
  | .nop => .command (commandWord 0x0 0 0) 0
  | .ledSet k => .command (commandWord 0x1 (0#1 ++ k) 0) 0
  | .ledClr k => .command (commandWord 0x2 (0#1 ++ k) 0) 0
  | .ledWr m => .command (commandWord 0x3 0 m) 0
  | .ledRd => .command (commandWord 0x4 0 0) 0
  | .tmrWr sel v => .command (commandWord 0x5 sel 0) v
  | .tmrRd sel => .command (commandWord 0x6 sel 0) 0
  | .wakeClr => .command (commandWord 0x7 0 0) 0
  | .tick => .event 0b01
  | .reset => .event 0b10

/-- The word that the opcode table's numbering of bits writes as `w` (notes/assumptions/12.md): an event word lies in
bits 1..0 of one byte; a command is `CW` in bits 15..0 with `DIN` in bits 47..16, each bit at or above `nbits` being 0. -/
def tableWord (nbits w : Nat) : InputWord :=
  let bits := w % 2 ^ nbits
  if nbits ≤ 8 then .event (BitVec.ofNat 2 bits)
  else .command (BitVec.ofNat 16 bits) (BitVec.ofNat 32 (bits / 2 ^ 16))

/-- The operation the decoder reads from a word of the opcode table, with `NPAT` as R6 takes it. -/
def decodeTableWord (nbits w : Nat) : Option Instr :=
  match decodeWord Config.npatTaken (tableWord nbits w) with
  | .op i => some i
  | .nothing => none
  | .rejected _ => none

end Sys2Proof
end

