-- ==== Sys2Proof/Machine/Fetch.lean ====
section
/-! DEFINITION. Which word the block performs next, from what the agents present on its two channels (30_encoding.md R51,
20_memory.md R45, 60_exceptions.md R91, R92). -/

namespace Sys2Proof.Machine

/-- The word to perform in this step, `none` when there is none, and the state with what is left to present. -/
structure Fetched where
  word : Option InputWord
  rest : State
deriving DecidableEq, Repr

/-- An arrival of a host command alone. -/
def commandArrival (c : HostCommand) : Arrival := ⟨0b00, some c⟩

/-- An arrival of an event alone. -/
def eventArrival (ev : EventWord) : Arrival := ⟨ev, none⟩

/-- A host command's word. -/
def commandInput (c : HostCommand) : InputWord := .command c.cw c.din

/-- The state that still presents `l`, after one more free choice was drawn. -/
def afterChoice (l : List Arrival) (s : State) : State := { s with inputs := l, choices := s.choices + 1 }

/-- A host command coincides with RESET: RESET goes first, the command after it or not at all (R92). The choice is free
(notes/assumptions/5.md). -/
def fetchAtReset (ev : EventWord) (c : HostCommand) (later : List Arrival) (s : State) : Fetched :=
  ⟨some (.event ev), afterChoice (if Config.keptAfterReset s.choices then commandArrival c :: later else later) s⟩

/-- A host command coincides with another event: one after the other, in either order (R91). The choice is free
(notes/assumptions/4.md, 6.md). -/
def fetchEither (ev : EventWord) (c : HostCommand) (later : List Arrival) (s : State) : Fetched :=
  if Config.eventFirst s.choices then ⟨some (.event ev), afterChoice (commandArrival c :: later) s⟩
  else ⟨some (commandInput c), afterChoice (eventArrival ev :: later) s⟩

/-- The next word. `EV = 0b00` is no operation (R53). -/
def fetch (s : State) : Fetched :=
  match s.inputs with
  | [] => ⟨none, s⟩
  | a :: later =>
    match a.command with
    | none => ⟨if a.ev = 0b00 then none else some (.event a.ev), { s with inputs := later }⟩
    | some c =>
      if a.ev = 0b00 then ⟨some (commandInput c), { s with inputs := later }⟩
      else if a.ev = 0b10 then fetchAtReset a.ev c later s
      else fetchEither a.ev c later s

/-- The refusal that marks an illegal word (R88). -/
def refusalOf : Reject → Refusal
  | .illegalCommand cw => .illegalCommand cw
  | .illegalEvent ev => .illegalEvent ev
  | .reservedSelector s => .reservedSelector s
  | .wakeNotWritable => .wakeNotWritable

/-- A step with no operation (R53): the outputs of the last operation are over, all else stays (R113;
notes/assumptions/17.md). -/
def idle (s : State) : Host.Outcome State Fault Refusal := .next (beginOp s)

/-- The arrival that presents a word of the opcode table alone. -/
def arrivalOf : InputWord → Arrival
  | .command cw din => commandArrival ⟨cw, din⟩
  | .event ev => eventArrival ev

/-- Present an arrival ahead of everything else. -/
def present (a : Arrival) (s : State) : State := { s with inputs := a :: s.inputs }

end Sys2Proof.Machine
end

