-- ==== Sys2Proof/Machine/Step.lean ====
section
/-! DEFINITION. One step: one whole operation of one agent (00_scope.md R9), or none. -/

namespace Sys2Proof.Machine

/-- Perform a decoded word. -/
def perform (d : Decoded) (s : State) : Host.Outcome State Fault Refusal :=
  match d with
  | .op i => exec i s
  | .nothing => idle s
  | .rejected r => .refused (refusalOf r)

/-- One step. A configuration that fails R7 is refused, not run. -/
def step (s : State) : Host.Outcome State Fault Refusal :=
  match failedCheck s.cfg with
  | some k => .refused (.badConfiguration k)
  | none =>
    match (fetch s).word with
    | none => idle (fetch s).rest
    | some w => perform (decodeWord s.cfg.npat w) (fetch s).rest

/-- `s` with one word of the opcode table presented ahead of everything else, so that the very next step performs it
(notes/assumptions/12.md). -/
def State.withFetchWord (s : State) (nbits w : Nat) : State :=
  present (arrivalOf (tableWord nbits w)) s

end Sys2Proof.Machine
end

