-- ==== Sys2Proof/Safety.lean ====
section
/-! DEFINITION. The terms the statements use: what an operation may leave unchanged, the legal states of the block, when a
bus is safe to look at, and the machine driven by ticks alone. -/

namespace Sys2Proof.Machine

/-- The timer bank is unchanged (R20, R97). -/
abbrev SameBank (s t : State) : Prop :=
  t.pd = s.pd ∧ t.deb0 = s.deb0 ∧ t.deb1 = s.deb1 ∧ t.shut = s.shut ∧ t.wake = s.wake

/-- The driver's own registers are unchanged: the cursor and the bus (R34). -/
abbrev SameDriver (s t : State) : Prop :=
  t.cur = s.cur ∧ t.busDir = s.busDir ∧ t.busLvl = s.busLvl

/-- The configuration, the tables in it, and what the agents still present are unchanged (R24, R45). -/
abbrev SameEnvironment (s t : State) : Prop :=
  t.cfg = s.cfg ∧ t.inputs = s.inputs ∧ t.choices = s.choices

/-- The operation had an empty pin trace and returned nothing (R28, R52). -/
abbrev NoOutput (t : State) : Prop := t.pinTrace = [] ∧ t.dout = none

/-- The operation had an empty pin trace and returned v (R28, R52). -/
abbrev Returned (v : Word32) (t : State) : Prop := t.pinTrace = [] ∧ t.dout = some v

/-- The block is as it was, its outputs apart. -/
abbrev SameBlock (s t : State) : Prop :=
  t.led = s.led ∧ SameDriver s t ∧ SameBank s t ∧ SameEnvironment s t

/-- The counters have their number and their widths (R20, R30 to R33). -/
abbrev CountersFit (s : State) : Prop :=
  s.pd.length = s.cfg.npat ∧ (∀ x ∈ s.pd, x.toNat < 2 ^ s.cfg.wPd) ∧
  s.deb0.toNat < 2 ^ s.cfg.wDeb ∧ s.deb1.toNat < 2 ^ s.cfg.wDeb ∧
  s.shut.toNat < 2 ^ s.cfg.wShut ∧ s.wake.toNat < 2 ^ s.cfg.wWake

/-- The bus holds what RESET or the last TICK left (R63, R65, R104): all inputs, the baseline, or the whole row of the
slot before the cursor. -/
abbrev BusHeld (s : State) : Prop :=
  busNow s = ⟨0b0000, 0b0000⟩ ∨ busNow s = ⟨0b1111, 0b0000⟩ ∨
  busNow s = ⟨dirRow s.cfg (s.cur - 1), lvlRow s.cfg (s.cur - 1)⟩

/-- A legal state: its configuration passes R7, its counters fit, its bus is one the block can leave. -/
abbrev Legal (s : State) : Prop := configWf s.cfg = true ∧ CountersFit s ∧ BusHeld s

/-- At most one LED is lit in each of these snapshots (R73, R74). -/
abbrev AtMostOneLit (c : Config) (trace : List Snapshot) : Prop :=
  ∀ p ∈ trace, (litBy c p).length ≤ 1

/-- The arrival of one tick. -/
abbrev tickArrival : Arrival := eventArrival 0b01

/-- The machine after n steps in which the tick source presents a tick and the host nothing (R75). -/
def afterTicks (n : Nat) (s : State) : Host.Outcome State Fault Refusal :=
  Host.Core.run Sys2Proof.core n { s with inputs := List.replicate n tickArrival ++ s.inputs }

/-- A command word with a reserved `OP`, or with a nonzero field that must be 0 (R52, R55, R57). -/
abbrev HasIllegalField (cw : CommandWord) : Prop :=
  8 ≤ (opField cw).toNat ∨
  ((opField cw = 0 ∨ opField cw = 4 ∨ opField cw = 7) ∧ (selField cw ≠ 0 ∨ immField cw ≠ 0)) ∨
  ((opField cw = 1 ∨ opField cw = 2) ∧ (8 ≤ (selField cw).toNat ∨ immField cw ≠ 0)) ∨
  (opField cw = 3 ∧ selField cw ≠ 0) ∨
  ((opField cw = 5 ∨ opField cw = 6) ∧ immField cw ≠ 0)

/-- A timer command's word, legal but for its selector, which is reserved: `NPAT <= SEL <= 0xB` (R57, R82). -/
abbrev NamesReservedSelector (npat : Nat) (cw : CommandWord) : Prop :=
  (opField cw = 5 ∨ opField cw = 6) ∧ immField cw = 0 ∧ npat ≤ (selField cw).toNat ∧ (selField cw).toNat ≤ 0xB

/-- The word of TMR.WR to WAKE (R57, R83). -/
abbrev WritesWake (cw : CommandWord) : Prop := opField cw = 5 ∧ immField cw = 0 ∧ selField cw = 0xF

/-- A command the host may issue (R51, R87). -/
def isHostCommand : Instr → Bool
  | .nop => true
  | .ledSet _ => true
  | .ledClr _ => true
  | .ledWr _ => true
  | .ledRd => true
  | .tmrWr _ _ => true
  | .tmrRd _ => true
  | .wakeClr => true
  | .tick => false
  | .reset => false

/-- What of a configuration the host port depends on: every parameter but the tables, the wiring and the environment's
(R35, R39). -/
abbrev SamePort (c d : Config) : Prop :=
  d.npat = c.npat ∧ d.wPd = c.wPd ∧ d.wDeb = c.wDeb ∧ d.wShut = c.wShut ∧ d.wWake = c.wWake

/-- Two states a host can tell apart by no read: they may differ in the cursor, the bus and the tables (R35). -/
abbrev HostEqual (s t : State) : Prop :=
  SamePort s.cfg t.cfg ∧ t.led = s.led ∧ SameBank s t ∧ t.dout = s.dout

/-- The state with other values of the two environment parameters (R6). -/
def withEnvironment (period : Nat) (sleepTicks : Bool) (s : State) : State :=
  { s with cfg := { s.cfg with tickPeriodUs := period, ticksInSleep := sleepTicks } }

/-- The two outcomes agree up to a change of the state reached. -/
def mapNext (f : State → State) : Host.Outcome State Fault Refusal → Host.Outcome State Fault Refusal
  | .next t => .next (f t)
  | .fault r => .fault r
  | .refused r => .refused r

end Sys2Proof.Machine
end

