-- ==== Sys2Proof/Certificates/Slice0/Obligations.lean ====
section
/-! DEFINITION. The statements for the provers. Every statement about an operation is about every state and every
configuration; one that could fail only where no state of the block is takes `Legal` or a part of it as a premise, and
`LegalStatesAreKept` and `ResetStatesAreLegal` say that the premise holds of every run. -/

open Sys2Proof Sys2Proof.Machine

/-! ## Encoding -/

/-- 30_encoding.md, sections 1 to 3: decoding the encoder's word of a well-formed operation gives that operation back,
every operand at every value. The encoder is the model's (notes/assumptions/19.md). -/
def Obligations.DecodeOfEncodeIsTheOperation : Prop :=
  ∀ (npat : Nat) (i : Instr), npat ≤ 12 → i.wf npat = true → decodeWord npat (encode i) = .op i

/-- 30_encoding.md, sections 1 and 3: a word that decodes to an operation is well formed and is that operation's own word, bit for bit; only
`DIN`, which every command but TMR.WR ignores, may differ from the encoder's (notes/assumptions/19.md). -/
def Obligations.EveryLegalWordIsItsOperationsWord : Prop :=
  ∀ (npat : Nat) (w : InputWord) (i : Instr), npat ≤ 12 → decodeWord npat w = .op i →
    i.wf npat = true ∧
    match w with
    | .event ev => encode i = .event ev
    | .command cw din => encode i = .command cw (if opField cw = 0x5 then din else 0)

/-- R55: the opcode map. A command word with a row's bits is that row's operation, its operands read from their bits;
every other command word is rejected; and of the four event words 0b01 is TICK, 0b10 RESET, 0b00 no operation and 0b11
rejected. -/
def Obligations.WordsDecodeByTheOpcodeMap : Prop :=
  (∀ (npat : Nat) (cw : CommandWord) (din : Word32), npat ≤ 12 →
    if cw &&& 0xFFFF = 0x0000 then decodeCommand npat cw din = .op .nop
    else if cw &&& 0xF8FF = 0x1000 then decodeCommand npat cw din = .op (.ledSet (cw.extractLsb' 8 3))
    else if cw &&& 0xF8FF = 0x2000 then decodeCommand npat cw din = .op (.ledClr (cw.extractLsb' 8 3))
    else if cw &&& 0xFF00 = 0x3000 then decodeCommand npat cw din = .op (.ledWr (cw.extractLsb' 0 8))
    else if cw &&& 0xFFFF = 0x4000 then decodeCommand npat cw din = .op .ledRd
    else if cw &&& 0xF0FF = 0x5000 ∧
        ((cw.extractLsb' 8 4).toNat < npat ∨ cw.extractLsb' 8 4 ∈ [0xC#4, 0xD#4, 0xE#4]) then
      decodeCommand npat cw din = .op (.tmrWr (cw.extractLsb' 8 4) din)
    else if cw &&& 0xF0FF = 0x6000 ∧
        ((cw.extractLsb' 8 4).toNat < npat ∨ cw.extractLsb' 8 4 ∈ [0xC#4, 0xD#4, 0xE#4, 0xF#4]) then
      decodeCommand npat cw din = .op (.tmrRd (cw.extractLsb' 8 4))
    else if cw &&& 0xFFFF = 0x7000 then decodeCommand npat cw din = .op .wakeClr
    else ∃ r, decodeCommand npat cw din = .rejected r) ∧
  decodeEvent 0b01 = .op .tick ∧ decodeEvent 0b10 = .op .reset ∧ decodeEvent 0b00 = .nothing ∧
  decodeEvent 0b11 = .rejected (.illegalEvent 0b11)

/-- 30_encoding.md, section 3: no command word has the bits of two rows of the opcode map. -/
def Obligations.NoWordHasTheBitsOfTwoRows : Prop :=
  ∀ (cw : CommandWord) (r₁ r₂ : CommandRow), r₁ ∈ commandRows → r₂ ∈ commandRows →
    r₁.hits cw = true → r₂.hits cw = true → r₁.mnemonic = r₂.mnemonic

/-- 30_encoding.md, section 4: decoding depends on `NPAT` only, and `NPAT` only moves the boundary between legal and reserved selectors: with
more counters a legal word is the same operation, and a word that becomes legal is a timer command whose selector lies
between the two values. -/
def Obligations.NpatOnlyMovesTheSelectorBoundary : Prop :=
  ∀ (n m : Nat) (cw : CommandWord) (din : Word32) (i : Instr), n ≤ m → m ≤ 12 →
    (decodeCommand n cw din = .op i → decodeCommand m cw din = .op i) ∧
    (decodeCommand m cw din = .op i → decodeCommand n cw din ≠ .op i →
      ∃ s : Selector, n ≤ s.toNat ∧ s.toNat < m ∧ (i = .tmrWr s din ∨ i = .tmrRd s))

/-- Sanity: words of 95_test_vectors.md, sections 3.2 to 3.4, decode to the operations they stand for. The numbering of
a word's bits is the model's reading of the opcode table (notes/assumptions/12.md). -/
def Obligations.VectorWordsDecode : Prop :=
  decodeTableWord 16 0x1600 = some (.ledSet 6) ∧ decodeTableWord 16 0x2300 = some (.ledClr 3) ∧
  decodeTableWord 16 0x30A5 = some (.ledWr 0xA5) ∧ decodeTableWord 48 0x01145C00 = some (.tmrWr 0xC 0x114) ∧
  decodeTableWord 16 0x6F00 = some (.tmrRd 0xF) ∧ decodeTableWord 8 0b10 = some .reset

/-! ## The step -/

/-- A step performs the operation presented alone, with the rest of what is presented left. The list
of what is presented is the model's form of the one order all operations take effect in (notes/assumptions/3.md). -/
def Obligations.StepPerformsTheDecodedOperation : Prop :=
  ∀ (s : State) (w : InputWord) (later : List Arrival) (i : Instr), configWf s.cfg = true →
    s.inputs = arrivalOf w :: later → decodeWord s.cfg.npat w = .op i →
    step s = exec i { s with inputs := later }

/-- 30_encoding.md, section 1, format `EVT`: what a step does with an event word presented alone: with 0b01 TICK; with
0b10 RESET; 0b11 is reserved and refused; with 0b00 there is no operation. That a step with no operation answers a next
state, with the block as it was, is the model's choice (notes/assumptions/17.md). -/
def Obligations.StepOnEachEventWord : Prop :=
  ∀ (s : State) (later : List Arrival), configWf s.cfg = true →
    (s.inputs = ⟨0b00, none⟩ :: later →
      ∃ t, step s = .next t ∧ SameBlock { s with inputs := later } t) ∧
    (s.inputs = ⟨0b01, none⟩ :: later → step s = exec .tick { s with inputs := later }) ∧
    (s.inputs = ⟨0b10, none⟩ :: later → step s = exec .reset { s with inputs := later }) ∧
    (s.inputs = ⟨0b11, none⟩ :: later → step s = .refused (.illegalEvent 0b11))

/-- 60_exceptions.md, section 2, on a tick and a host command that arrive together: one is performed and the other is
left to be performed next, in one order or the other. Which, is a free value (notes/assumptions/4.md). -/
def Obligations.CoincidingTickAndCommandRunInSomeOrder : Prop :=
  ∀ (s : State) (c : HostCommand) (later : List Arrival) (i : Instr), configWf s.cfg = true →
    s.inputs = ⟨0b01, some c⟩ :: later → decodeCommand s.cfg.npat c.cw c.din = .op i →
    step s = exec .tick { s with inputs := ⟨0b00, some c⟩ :: later, choices := s.choices + 1 } ∨
    step s = exec i { s with inputs := ⟨0b01, none⟩ :: later, choices := s.choices + 1 }

/-- 60_exceptions.md, section 2, on RESET and a host command that arrive together: RESET is performed, whatever the
command's word is, and the command is left to be performed next or is dropped. Which, is a free value
(notes/assumptions/5.md). -/
def Obligations.ResetPrecedesACoincidingCommand : Prop :=
  ∀ (s : State) (c : HostCommand) (later : List Arrival), configWf s.cfg = true →
    s.inputs = ⟨0b10, some c⟩ :: later →
    ∃ t, step s = .next t ∧
      (t = { State.resetWith s.cfg with inputs := ⟨0b00, some c⟩ :: later, choices := s.choices + 1 } ∨
       t = { State.resetWith s.cfg with inputs := later, choices := s.choices + 1 })

/-- 70_reset_and_hazards.md, section 2, on a tick source that has stopped: with nothing presented, any number of steps
leaves the whole block as it was, so no countdown moves and the bus holds. That a step is taken at all is the model's
choice (notes/assumptions/17.md). -/
def Obligations.NothingChangesWhileNothingIsPresented : Prop :=
  ∀ (n : Nat) (s : State), configWf s.cfg = true → s.inputs = [] →
    ∃ t, Host.Core.run Sys2Proof.core n s = .next t ∧ SameBlock s t

/-- R7: a configuration that fails a constraint is refused, not run; one that meets them all is never refused for it. -/
def Obligations.OnlyAConfigurationMeetingTheConstraintsRuns : Prop :=
  ∀ s : State,
    (∃ k, step s = .refused (.badConfiguration k)) ↔
    ¬ ((1 ≤ s.cfg.npat ∧ s.cfg.npat ≤ 12) ∧
       (∀ w ∈ [s.cfg.wPd, s.cfg.wDeb, s.cfg.wShut, s.cfg.wWake], 1 ≤ w ∧ w ≤ 32) ∧
       (∀ k : Slot, (wireOf s.cfg k).anode ≠ (wireOf s.cfg k).cathode) ∧
       (∀ j k : Slot, wireOf s.cfg j = wireOf s.cfg k → j = k) ∧
       (∀ k : Slot,
         dirRow s.cfg k = (1#4 <<< (wireOf s.cfg k).anode.val) ||| (1#4 <<< (wireOf s.cfg k).cathode.val) ∧
         lvlRow s.cfg k = 1#4 <<< (wireOf s.cfg k).anode.val))

/-- 30_encoding.md, section 4: a command word presented alone is refused exactly when it is one of the illegal words
listed there, by one of the reasons of 60_exceptions.md, section 1: a reserved selector or TMR.WR to WAKE under its own
name (which word gets which name is the model's reading of the vectors, notes/assumptions/10.md), every other word under
the word itself. -/
def Obligations.IllegalCommandWordsAreRefused : Prop :=
  ∀ (s : State) (cw : CommandWord) (din : Word32) (later : List Arrival), configWf s.cfg = true →
    s.inputs = ⟨0b00, some ⟨cw, din⟩⟩ :: later →
    (HasIllegalField cw → step s = .refused (.illegalCommand cw)) ∧
    (NamesReservedSelector s.cfg.npat cw → step s = .refused (.reservedSelector (selField cw))) ∧
    (WritesWake cw → step s = .refused .wakeNotWritable) ∧
    (¬ HasIllegalField cw → ¬ NamesReservedSelector s.cfg.npat cw → ¬ WritesWake cw → ∃ t, step s = .next t)

/-- 60_exceptions.md, section 1: no step faults, and a step refuses only for the configuration or for an illegal word, by
the closed list of reasons; it never refuses a legal operation. -/
def Obligations.StepsRefuseOnlyForTheListedReasons : Prop :=
  ∀ s : State, (∀ f, step s ≠ .fault f) ∧
    ∀ r, step s = .refused r →
      (configWf s.cfg = false ∧ ∃ k, r = .badConfiguration k) ∨
      (configWf s.cfg = true ∧ ∃ w, (fetch s).word = some w ∧
        (∀ i, decodeWord s.cfg.npat w ≠ .op i) ∧
        match r with
        | .illegalCommand cw => ∃ din, w = .command cw din
        | .illegalEvent ev => ev = 0b11 ∧ w = .event ev
        | .reservedSelector sel =>
          s.cfg.npat ≤ sel.toNat ∧ sel.toNat ≤ 0xB ∧ ∃ cw din, w = .command cw din ∧ selField cw = sel
        | .wakeNotWritable => ∃ din, w = .command 0x5F00 din
        | .badConfiguration _ => False
        | .notModelled _ => False)

/-- 60_exceptions.md, section 1: every legal operation completes in its step, in every state. All ten operations. -/
def Obligations.EveryLegalOperationCompletes : Prop :=
  ∀ (i : Instr) (s : State), s.cfg.npat ≤ 12 → i.wf s.cfg.npat = true → ∃ t, exec i s = .next t

/-! ## The LED commands -/

/-- R77: NOP is the word 0x0000, any other word with `OP = 0` is illegal, and it leaves the state unchanged. -/
def Obligations.NopChangesNothing : Prop :=
  (∀ s : State, ∃ t, exec .nop s = .next t ∧ SameBlock s t ∧ NoOutput t) ∧
  (∀ (npat : Nat) (din : Word32), decodeCommand npat 0x0000 din = .op .nop) ∧
  (∀ (npat : Nat) (cw : CommandWord) (din : Word32), opField cw = 0 → cw ≠ 0x0000 →
    decodeCommand npat cw din = .rejected (.illegalCommand cw))

/-- 41_led_port.md, LED.SET: it completes in every state, makes LED[k] 1, and leaves the other seven bits and everything
else unchanged. -/
def Obligations.LedSetSetsExactlyItsBit : Prop :=
  ∀ (s : State) (k : Slot), ∃ t, exec (.ledSet k) s = .next t ∧
    (∀ j : Slot, t.led.getLsbD j.toNat = if j = k then true else s.led.getLsbD j.toNat) ∧
    SameDriver s t ∧ SameBank s t ∧ SameEnvironment s t ∧ NoOutput t

/-- 41_led_port.md, LED.CLR: it completes in every state, makes LED[k] 0, and leaves the other seven bits and everything
else unchanged. -/
def Obligations.LedClrClearsExactlyItsBit : Prop :=
  ∀ (s : State) (k : Slot), ∃ t, exec (.ledClr k) s = .next t ∧
    (∀ j : Slot, t.led.getLsbD j.toNat = if j = k then false else s.led.getLsbD j.toNat) ∧
    SameDriver s t ∧ SameBank s t ∧ SameEnvironment s t ∧ NoOutput t

/-- 41_led_port.md, LED.WR: it completes in every state, makes the LED bitmask m, and changes nothing else. -/
def Obligations.LedWrReplacesTheMask : Prop :=
  ∀ (s : State) (m : LedMask), ∃ t, exec (.ledWr m) s = .next t ∧ t.led = m ∧
    SameDriver s t ∧ SameBank s t ∧ SameEnvironment s t ∧ NoOutput t

/-- R81: LED.RD is the word 0x4000, any nonzero `SEL` or `IMM` being illegal. It completes in every state, returns the
bitmask zero-extended and has no side effect: the value is the one the bitmask holds, which the last LED.SET, LED.CLR,
LED.WR or RESET left there, no other operation writing it. After `led.wr #0xA5` it returns 0x000000A5. -/
def Obligations.LedRdReturnsTheMask : Prop :=
  (∀ s : State, ∃ t, exec .ledRd s = .next t ∧ SameBlock s t ∧
    ∃ v : Word32, Returned v t ∧ v.toNat = s.led.toNat) ∧
  (∀ (npat : Nat) (din : Word32), decodeCommand npat 0x4000 din = .op .ledRd) ∧
  (∀ (npat : Nat) (cw : CommandWord) (din : Word32), opField cw = 4 → cw ≠ 0x4000 →
    decodeCommand npat cw din = .rejected (.illegalCommand cw)) ∧
  (∀ (i : Instr) (s t : State), exec i s = .next t → t.led ≠ s.led →
    (∃ k, i = .ledSet k) ∨ (∃ k, i = .ledClr k) ∨ (∃ m, i = .ledWr m) ∨ i = .reset) ∧
  (∀ s t : State, exec (.ledWr 0xA5) s = .next t → ∃ u, exec .ledRd t = .next u ∧ u.dout = some 0x000000A5)

/-- R23: no operation reads one LED bit to decide its effect on another, so two states that differ in LED bits only, bit j
apart, still agree on bit j afterwards; and TICK never writes the bitmask. -/
def Obligations.LedBitsAreIndependent : Prop :=
  (∀ (i : Instr) (s t : State) (m : LedMask) (j : Slot), exec i s = .next t →
    m.getLsbD j.toNat = s.led.getLsbD j.toNat →
    ∃ u, exec i { s with led := m } = .next u ∧ u.led.getLsbD j.toNat = t.led.getLsbD j.toNat) ∧
  (∀ (s t : State) (k j : Slot), exec (.ledSet k) s = .next t ∨ exec (.ledClr k) s = .next t → j ≠ k →
    t.led.getLsbD j.toNat = s.led.getLsbD j.toNat) ∧
  (∀ s t : State, exec .tick s = .next t → t.led = s.led)

/-! ## The timer commands -/

/-- 42_timer_port.md, TMR.WR: with a selector that names a countdown it completes, makes that countdown the low bits of the
value, as many as the countdown is wide, and changes no other counter and nothing else. -/
def Obligations.TmrWrArmsTheSelectedCountdown : Prop :=
  ∀ (s : State) (sel : Selector) (v : Word32), s.cfg.npat ≤ 12 → s.pd.length = s.cfg.npat →
    (sel.toNat < s.cfg.npat →
      ∃ t, exec (.tmrWr sel v) s = .next t ∧
        (∃ x, t.pd[sel.toNat]? = some x ∧ x.toNat = v.toNat % 2 ^ s.cfg.wPd ∧ t.pd.length = s.pd.length ∧
          ∀ j, j ≠ sel.toNat → t.pd[j]? = s.pd[j]?) ∧
        t.deb0 = s.deb0 ∧ t.deb1 = s.deb1 ∧ t.shut = s.shut ∧ t.wake = s.wake ∧
        t.led = s.led ∧ SameDriver s t ∧ SameEnvironment s t ∧ NoOutput t) ∧
    (sel = 0xC →
      ∃ t, exec (.tmrWr sel v) s = .next t ∧ t.deb0.toNat = v.toNat % 2 ^ s.cfg.wDeb ∧
        t.pd = s.pd ∧ t.deb1 = s.deb1 ∧ t.shut = s.shut ∧ t.wake = s.wake ∧
        t.led = s.led ∧ SameDriver s t ∧ SameEnvironment s t ∧ NoOutput t) ∧
    (sel = 0xD →
      ∃ t, exec (.tmrWr sel v) s = .next t ∧ t.deb1.toNat = v.toNat % 2 ^ s.cfg.wDeb ∧
        t.pd = s.pd ∧ t.deb0 = s.deb0 ∧ t.shut = s.shut ∧ t.wake = s.wake ∧
        t.led = s.led ∧ SameDriver s t ∧ SameEnvironment s t ∧ NoOutput t) ∧
    (sel = 0xE →
      ∃ t, exec (.tmrWr sel v) s = .next t ∧ t.shut.toNat = v.toNat % 2 ^ s.cfg.wShut ∧
        t.pd = s.pd ∧ t.deb0 = s.deb0 ∧ t.deb1 = s.deb1 ∧ t.wake = s.wake ∧
        t.led = s.led ∧ SameDriver s t ∧ SameEnvironment s t ∧ NoOutput t)

/-- 42_timer_port.md, TMR.WR and its selector decoding: WAKE is not writable, and a reserved selector is refused. -/
def Obligations.TmrWrStopsOnWakeAndReservedSelectors : Prop :=
  ∀ (s : State) (sel : Selector) (v : Word32), s.cfg.npat ≤ 12 →
    (sel = 0xF → exec (.tmrWr sel v) s = .refused .wakeNotWritable) ∧
    (s.cfg.npat ≤ sel.toNat → sel.toNat ≤ 0xB → exec (.tmrWr sel v) s = .refused (.reservedSelector sel))

/-- 42_timer_port.md, TMR.RD: with a selector that names a counter it completes, returns that counter whole and
zero-extended, and has no side effect; a reserved selector is refused. -/
def Obligations.TmrRdReturnsTheSelectedCounter : Prop :=
  ∀ (s : State) (sel : Selector), s.cfg.npat ≤ 12 → s.pd.length = s.cfg.npat →
    (∀ x, sel.toNat < s.cfg.npat → s.pd[sel.toNat]? = some x →
      ∃ t, exec (.tmrRd sel) s = .next t ∧ SameBlock s t ∧ Returned x t) ∧
    (sel = 0xC → ∃ t, exec (.tmrRd sel) s = .next t ∧ SameBlock s t ∧ Returned s.deb0 t) ∧
    (sel = 0xD → ∃ t, exec (.tmrRd sel) s = .next t ∧ SameBlock s t ∧ Returned s.deb1 t) ∧
    (sel = 0xE → ∃ t, exec (.tmrRd sel) s = .next t ∧ SameBlock s t ∧ Returned s.shut t) ∧
    (sel = 0xF → ∃ t, exec (.tmrRd sel) s = .next t ∧ SameBlock s t ∧ Returned s.wake t) ∧
    (s.cfg.npat ≤ sel.toNat → sel.toNat ≤ 0xB → exec (.tmrRd sel) s = .refused (.reservedSelector sel))

/-- 42_timer_port.md: a TMR.RD after a TMR.WR of the same selector returns the written value cut to the countdown's width,
and of any other selector what it returned before the write. -/
def Obligations.TmrRdAfterTmrWr : Prop :=
  ∀ (s t : State) (a b : Selector) (v : Word32), Legal s → exec (.tmrWr a v) s = .next t →
    b = a ∨ tmrRdLegal s.cfg.npat b = true →
    ∃ u w, exec (.tmrRd b) t = .next u ∧ exec (.tmrRd b) s = .next w ∧
      (b = a → ∃ c, selected s.cfg.npat a = some c ∧
        ∃ x : Word32, u.dout = some x ∧ x.toNat = v.toNat % 2 ^ widthOf s.cfg c) ∧
      (b ≠ a → u.dout = w.dout)

/-- R85: WAKE.CLR is the word 0x7000, any nonzero `SEL` or `IMM` being illegal. It completes in every state, makes WAKE 0
and changes nothing else; no other host command changes WAKE; and an epoch TICK right after it makes WAKE 1. -/
def Obligations.WakeClrZeroesTheWakeClock : Prop :=
  (∀ s : State, ∃ t, exec .wakeClr s = .next t ∧ t.wake = 0 ∧
    t.pd = s.pd ∧ t.deb0 = s.deb0 ∧ t.deb1 = s.deb1 ∧ t.shut = s.shut ∧ t.led = s.led ∧
    SameDriver s t ∧ SameEnvironment s t ∧ NoOutput t) ∧
  (∀ (npat : Nat) (din : Word32), decodeCommand npat 0x7000 din = .op .wakeClr) ∧
  (∀ (npat : Nat) (cw : CommandWord) (din : Word32), opField cw = 7 → cw ≠ 0x7000 →
    decodeCommand npat cw din = .rejected (.illegalCommand cw)) ∧
  (∀ (i : Instr) (s t : State), s.cfg.npat ≤ 12 → isHostCommand i = true → i ≠ .wakeClr → exec i s = .next t →
    t.wake = s.wake) ∧
  (∀ s t : State, configWf s.cfg = true → s.cur = 7 → exec .wakeClr s = .next t →
    ∃ u, exec .tick t = .next u ∧ u.wake = 1)

/-- 20_memory.md, section 3, side effects: LED.SET, LED.CLR, LED.WR, TMR.WR and WAKE.CLR are idempotent, two reads with
nothing between them return the same, and TICK is not idempotent. -/
def Obligations.WritesAreIdempotentAndReadsRepeat : Prop :=
  (∀ (i : Instr) (s t : State), isHostCommand i = true → exec i s = .next t → exec i t = .next t) ∧
  (∀ s t : State, exec .tick s = .next t → ∀ u, exec .tick t = .next u → u.cur ≠ t.cur)

/-! ## TICK -/

/-- R63, R65: from every bus state the pin trace of a TICK is the baseline written level first and then, exactly when the
current slot's LED bit is 1, that slot's whole row written direction first; the bus is left at its last snapshot, which no
host command moves. (That the baseline lights no LED is R63's inference: `NoWrongLedDuringATick`.) -/
def Obligations.TickPinTrace : Prop :=
  ∀ s : State, ∃ t, exec .tick s = .next t ∧
    (s.led.getLsbD s.cur.toNat = true →
      t.pinTrace = [⟨s.busDir, 0b0000⟩, ⟨0b1111, 0b0000⟩, ⟨dirRow s.cfg s.cur, 0b0000⟩,
        ⟨dirRow s.cfg s.cur, lvlRow s.cfg s.cur⟩] ∧
      t.busDir = dirRow s.cfg s.cur ∧ t.busLvl = lvlRow s.cfg s.cur) ∧
    (s.led.getLsbD s.cur.toNat = false →
      t.pinTrace = [⟨s.busDir, 0b0000⟩, ⟨0b1111, 0b0000⟩] ∧ t.busDir = 0b1111 ∧ t.busLvl = 0b0000) ∧
    ∀ (i : Instr) (u : State), isHostCommand i = true → exec i t = .next u → busNow u = busNow t

/-- R66, R68, R69, R70, R71: a TICK advances the cursor by one modulo 8; the TICK that started at slot 7, and no other,
decrements every countdown, clamped at zero, and increments the wake clock modulo 2^W_WAKE. It changes no LED bit and no
configuration, and returns nothing. -/
def Obligations.TickAdvancesTheCursorAndCountsTheEpoch : Prop :=
  ∀ s : State, s.cfg.wWake ≤ 32 → ∃ t, exec .tick s = .next t ∧
    t.cur.toNat = (s.cur.toNat + 1) % 8 ∧
    (s.cur = 7 →
      t.pd.map BitVec.toNat = s.pd.map (fun x => x.toNat - 1) ∧
      t.deb0.toNat = s.deb0.toNat - 1 ∧ t.deb1.toNat = s.deb1.toNat - 1 ∧ t.shut.toNat = s.shut.toNat - 1 ∧
      t.wake.toNat = (s.wake.toNat + 1) % 2 ^ s.cfg.wWake) ∧
    (s.cur ≠ 7 → SameBank s t) ∧
    t.led = s.led ∧ SameEnvironment s t ∧ t.dout = none

/-- 40_tick.md, section 3: TICK completes for every value of every state element, and its pin trace has 2 or 4 entries. -/
def Obligations.TickIsTotal : Prop :=
  ∀ s : State, ∃ t, exec .tick s = .next t ∧ (t.pinTrace.length = 2 ∨ t.pinTrace.length = 4)

/-- 40_tick.md, section 3: TICK writes neither the bitmask nor the tables, and of the bitmask only the bit the cursor selects matters to it,
so a host write shows at the next TICK whose cursor selects the changed bit. -/
def Obligations.TickReadsOnlyTheCursorsBit : Prop :=
  ∀ (s t : State) (m : LedMask), exec .tick s = .next t →
    t.led = s.led ∧ t.cfg = s.cfg ∧
    (m.getLsbD s.cur.toNat = s.led.getLsbD s.cur.toNat →
      exec .tick { s with led := m } = .next { t with led := m }) ∧
    (m.getLsbD s.cur.toNat ≠ s.led.getLsbD s.cur.toNat →
      ∃ u, exec .tick { s with led := m } = .next u ∧ u.pinTrace ≠ t.pinTrace)

/-- 10_state.md, section 3, and 00_scope.md R7: a row of well-formed tables lights exactly its own LED, and only that LED's
two pins are outputs. When an LED is lit is the spec's general knowledge (notes/assumptions/13.md). -/
def Obligations.EachRowLightsExactlyItsLed : Prop :=
  ∀ (c : Config) (k : Slot), configWf c = true →
    lit c (dirRow c k) (lvlRow c k) = [k] ∧
    ∀ p : Pin, pinState (dirRow c k) (lvlRow c k) p =
      if p = (wireOf c k).anode then .h else if p = (wireOf c k).cathode then .l else .z

/-- 40_tick.md, section 3, no wrong LED at any instant: from every bus state, every snapshot of a TICK lights no LED,
except the last of a TICK whose LED bit is 1, which lights exactly the serviced slot (when an LED is lit:
notes/assumptions/13.md). -/
def Obligations.NoWrongLedDuringATick : Prop :=
  ∀ s t : State, configWf s.cfg = true → exec .tick s = .next t →
    t.pinTrace.map (litBy s.cfg) =
      if s.led.getLsbD s.cur.toNat = true then [[], [], [], [s.cur]] else [[], []]

/-! ## RESET -/

/-- R104, R36: RESET completes in every state and leaves every element at its reset value, the configuration and its tables
unchanged; its only snapshot has every pin high impedance; and on a state already at reset it changes nothing. (That it
lights no LED is an inference of both rules: `ResetLightsNoLed`.) -/
def Obligations.ResetSetsEveryElement : Prop :=
  (∀ s : State, ∃ t, exec .reset s = .next t ∧
    t.led = 0b00000000 ∧ t.cur = 0 ∧ t.pd.length = s.cfg.npat ∧ (∀ x ∈ t.pd, x = 0) ∧ t.deb0 = 0 ∧ t.deb1 = 0 ∧
    t.shut = 0 ∧ t.wake = 0 ∧ t.busDir = 0b0000 ∧ t.busLvl = 0b0000 ∧ SameEnvironment s t ∧
    t.pinTrace = [⟨0b0000, 0b0000⟩] ∧ t.dout = none ∧
    (∀ p : Pin, pinState t.busDir t.busLvl p = .z) ∧
    exec .reset t = .next t) ∧
  ∀ c : Config, exec .reset (State.resetWith c) = .next (State.resetWith c)

/-- 70_reset_and_hazards.md, section 1: RESET lights no LED at any point, whatever was lit before it (when an LED is lit:
notes/assumptions/13.md). -/
def Obligations.ResetLightsNoLed : Prop :=
  ∀ s : State, ∃ t, exec .reset s = .next t ∧ litBy t.cfg (busNow t) = [] ∧ ∀ p ∈ t.pinTrace, litBy t.cfg p = []

/-! ## Whole-machine rules -/

/-- Every step keeps a legal state legal: the configuration passes its checks and never changes, the counters keep their
number and their widths, and the bus holds nothing but all inputs, the baseline or the whole row of the slot before the
cursor. -/
def Obligations.LegalStatesAreKept : Prop :=
  ∀ s t : State, Legal s → step s = .next t → Legal t ∧ t.cfg = s.cfg

/-- Every state RESET leaves under a configuration that passes its checks is legal, the model's own launch state too (its
configuration is the model's choice, notes/assumptions/2.md). -/
def Obligations.ResetStatesAreLegal : Prop :=
  (∀ c : Config, configWf c = true → Legal (State.resetWith c)) ∧ Legal State.reset

/-- 40_tick.md, section 3: at most one LED is lit at any time. In every run of any length from a legal state, whatever the
agents present, no snapshot of the last operation and no bus left standing lights two LEDs, and one that is lit is the
slot before the cursor (when an LED is lit: notes/assumptions/13.md). -/
def Obligations.AtMostOneLedIsLitInEveryRun : Prop :=
  ∀ (n : Nat) (s t : State), Legal s → AtMostOneLit s.cfg s.pinTrace → Host.Core.run Sys2Proof.core n s = .next t →
    AtMostOneLit t.cfg t.pinTrace ∧ (litBy t.cfg (busNow t) = [] ∨ litBy t.cfg (busNow t) = [t.cur - 1])

/-- 10_state.md, section 7, writers: LED is written by the LED commands and RESET only, the cursor and the bus by TICK and
RESET only, the countdowns by TMR.WR, TICK and RESET only, WAKE by TICK, WAKE.CLR and RESET only, the configuration and
its tables by nothing. -/
def Obligations.OnlyTheOwnersWriteEachElement : Prop :=
  ∀ (i : Instr) (s t : State), s.cfg.npat ≤ 12 → exec i s = .next t →
    t.cfg = s.cfg ∧
    (t.led ≠ s.led → (∃ k, i = .ledSet k) ∨ (∃ k, i = .ledClr k) ∨ (∃ m, i = .ledWr m) ∨ i = .reset) ∧
    (¬ SameDriver s t → i = .tick ∨ i = .reset) ∧
    (t.pd ≠ s.pd ∨ t.deb0 ≠ s.deb0 ∨ t.deb1 ≠ s.deb1 ∨ t.shut ≠ s.shut →
      (∃ sel v, i = .tmrWr sel v) ∨ i = .tick ∨ i = .reset) ∧
    (t.wake ≠ s.wake → i = .tick ∨ i = .wakeClr ∨ i = .reset) ∧
    (t.pinTrace ≠ [] → i = .tick ∨ i = .reset) ∧ (t.dout ≠ none → i = .ledRd ∨ ∃ sel, i = .tmrRd sel)

/-- 10_state.md, section 7, host-invisible state: states that differ only in the cursor, the bus, the tables and the
wiring answer every host command alike, so no sequence of host commands tells them apart. -/
def Obligations.TheHostCannotSeeTheDriver : Prop :=
  ∀ (i : Instr) (s t : State), isHostCommand i = true → HostEqual s t →
    match exec i s with
    | .next u => ∃ w, exec i t = .next w ∧ HostEqual u w
    | .fault f => exec i t = .fault f
    | .refused r => exec i t = .refused r

/-- 92_eei_decisions.md D19 and D20 (notes/assumptions/14.md): no step depends on TICK_PERIOD or TICKS_IN_SLEEP, so a claim about the block holds for
every value of both. -/
def Obligations.StepsIgnoreTheEnvironmentParameters : Prop :=
  ∀ (s : State) (period : Nat) (sleepTicks : Bool),
    step (withEnvironment period sleepTicks s) = mapNext (withEnvironment period sleepTicks) (step s)

/-! ## Ticks in sequence -/

/-- 40_tick.md, section 2: over any 8 TICKs in a row every slot is serviced exactly once and exactly one TICK is an epoch
TICK. Which slot the j-th of them services is the cursor after the j before it. -/
def Obligations.EightTicksServiceEverySlotOnce : Prop :=
  ∀ s : State, configWf s.cfg = true →
    (∀ k : Slot, ∃! j : Fin 8, ∃ t, afterTicks j.val s = .next t ∧ t.cur = k) ∧
    (∃! j : Fin 8, ∃ t, afterTicks (j.val + 1) s = .next t ∧ t.cur = 0)

/-- 40_tick.md, section 3, epoch arithmetic: after n TICKs from reset and no host command the cursor is n mod 8, WAKE is
floor(n/8) modulo 2^W_WAKE, and every countdown is 0. -/
def Obligations.EpochArithmeticFromReset : Prop :=
  ∀ (n : Nat) (c : Config), configWf c = true → ∃ t, afterTicks n (State.resetWith c) = .next t ∧
    t.cur.toNat = n % 8 ∧ t.wake.toNat = n / 8 % 2 ^ c.wWake ∧
    t.pd = List.replicate c.npat 0 ∧ t.deb0 = 0 ∧ t.deb1 = 0 ∧ t.shut = 0

/-- 40_tick.md, section 3, and 70_reset_and_hazards.md, section 2, countdown granularity: a countdown armed to v while the
cursor is c reads v less the epochs since, never below 0, and first reads 0 after (8 - c) + 8(v - 1) TICKs, v
being the written value cut to the countdown's width (that no tick is lost: notes/assumptions/15.md). -/
def Obligations.ArmedCountdownExpiresAfterItsEpochs : Prop :=
  ∀ (n : Nat) (s t : State) (sel : Selector) (v : Word32) (x : Counter), Legal s →
    exec (.tmrWr sel v) s = .next t → selected s.cfg.npat sel = some x →
    ∃ u, afterTicks n t = .next u ∧
      (readCounter x u).toNat = v.toNat % 2 ^ widthOf s.cfg x - (s.cur.toNat + n) / 8 ∧
      (0 < v.toNat % 2 ^ widthOf s.cfg x →
        (readCounter x u = 0 ↔ (8 - s.cur.toNat) + 8 * (v.toNat % 2 ^ widthOf s.cfg x - 1) ≤ n))

/-- 40_tick.md, section 2, and 70_reset_and_hazards.md, section 2, wake-clock quantisation: over n TICKs and no host command
WAKE grows by exactly the epochs that fall among them, modulo 2^W_WAKE, and the cursor by n modulo 8; so between two reads
of WAKE the difference is the number of epochs (that no tick is lost: notes/assumptions/15.md). -/
def Obligations.WakeClockCountsTheEpochs : Prop :=
  ∀ (n : Nat) (s : State), Legal s → ∃ u, afterTicks n s = .next u ∧
    u.cur.toNat = (s.cur.toNat + n) % 8 ∧
    u.wake.toNat = (s.wake.toNat + (s.cur.toNat + n) / 8) % 2 ^ s.cfg.wWake

/-- 70_reset_and_hazards.md, section 2, LED set latency: after `led.set k` while the cursor is c, slot k is lit by the
(((k - c) mod 8) + 1)-th TICK and by none before it, and it is lit only right after a TICK that serviced it (when
an LED is lit: notes/assumptions/13.md; that ticks keep coming: 15.md). -/
def Obligations.LedSetShowsWithinEightTicks : Prop :=
  ∀ (n : Nat) (s t : State) (k : Slot), configWf s.cfg = true → exec (.ledSet k) s = .next t → 1 ≤ n →
    ∃ u, afterTicks n t = .next u ∧
      (k ∈ litBy u.cfg (busNow u) ↔ n % 8 = ((k - s.cur).toNat + 1) % 8) ∧
      (n = (k - s.cur).toNat + 1 → litBy u.cfg (busNow u) = [k]) ∧
      (n < (k - s.cur).toNat + 1 → k ∉ litBy u.cfg (busNow u))

/-- 70_reset_and_hazards.md, section 2, LED clear latency: until the next TICK `led.clr k` leaves the pins as they are;
from the end of the next TICK on, slot k is not lit (notes/assumptions/13.md, 15.md). -/
def Obligations.LedClrShowsAtTheNextTick : Prop :=
  ∀ (n : Nat) (s t : State) (k : Slot), configWf s.cfg = true → exec (.ledClr k) s = .next t →
    busNow t = busNow s ∧
    (1 ≤ n → ∃ u, afterTicks n t = .next u ∧ k ∉ litBy u.cfg (busNow u) ∧ ∀ p ∈ u.pinTrace, k ∉ litBy u.cfg p)

/-- 70_reset_and_hazards.md, section 2, all-off settle: after `led.wr #0` the bus is at the baseline, with no LED lit, at
the end of the next TICK and of every later one (notes/assumptions/13.md, 15.md). -/
def Obligations.AllOffSettlesAtTheNextTick : Prop :=
  ∀ (n : Nat) (s t : State), configWf s.cfg = true → exec (.ledWr 0) s = .next t → 1 ≤ n →
    ∃ u, afterTicks n t = .next u ∧ busNow u = ⟨0b1111, 0b0000⟩ ∧ litBy u.cfg (busNow u) = []

/-- 70_reset_and_hazards.md, section 2, lost decrement: a host that reads a countdown and writes the value back loses an
epoch that falls between the two commands and keeps one that falls after them. -/
def Obligations.ReadThenWriteBackLosesAnEpoch : Prop :=
  ∀ (s t : State) (sel : Selector) (r : Word32) (x : Counter), Legal s → s.cur = 7 → sel ≠ 0xF →
    exec (.tmrRd sel) s = .next t → t.dout = some r → selected s.cfg.npat sel = some x →
    (∃ a b, exec .tick t = .next a ∧ exec (.tmrWr sel r) a = .next b ∧ readCounter x b = r) ∧
    (∃ a b, exec (.tmrWr sel r) t = .next a ∧ exec .tick a = .next b ∧ (readCounter x b).toNat = r.toNat - 1)
end

