-- ==== Sys2Proof/Laws/Decode.lean ====
section
/-! SUPPORT. The fields of a command word, masks read as conditions on fields, and the decoder said once in terms of
fields. -/

namespace Sys2Proof

theorem commandWord_toNat (op : BitVec 4) (sel : Selector) (imm : BitVec 8) :
    (commandWord op sel imm).toNat = op.toNat * 4096 + sel.toNat * 256 + imm.toNat := by
  simp only [commandWord, BitVec.toNat_append]
  rw [← Nat.shiftLeft_add_eq_or_of_lt sel.isLt, ← Nat.shiftLeft_add_eq_or_of_lt imm.isLt, Nat.shiftLeft_eq,
    Nat.shiftLeft_eq]
  omega

theorem commandWord_inj {a d : BitVec 4} {b e : Selector} {c f : BitVec 8} :
    commandWord a b c = commandWord d e f ↔ a = d ∧ b = e ∧ c = f := by
  constructor
  · intro h
    have hn := congrArg BitVec.toNat h
    simp only [commandWord_toNat] at hn
    refine ⟨?_, ?_, ?_⟩ <;> apply BitVec.eq_of_toNat_eq <;> omega
  · rintro ⟨rfl, rfl, rfl⟩
    rfl

/-- A command word is its three fields (R52). -/
theorem commandWord_fields (cw : CommandWord) : commandWord (opField cw) (selField cw) (immField cw) = cw := by
  apply BitVec.eq_of_toNat_eq
  have hlt := cw.isLt
  rw [commandWord_toNat]
  simp only [opField, selField, immField, BitVec.extractLsb'_toNat, Nat.shiftRight_eq_div_pow]
  omega

@[simp] theorem opField_commandWord (a : BitVec 4) (b : Selector) (c : BitVec 8) :
    opField (commandWord a b c) = a :=
  (commandWord_inj.mp (commandWord_fields (commandWord a b c))).1

@[simp] theorem selField_commandWord (a : BitVec 4) (b : Selector) (c : BitVec 8) :
    selField (commandWord a b c) = b :=
  (commandWord_inj.mp (commandWord_fields (commandWord a b c))).2.1

@[simp] theorem immField_commandWord (a : BitVec 4) (b : Selector) (c : BitVec 8) :
    immField (commandWord a b c) = c :=
  (commandWord_inj.mp (commandWord_fields (commandWord a b c))).2.2

theorem commandWord_and (a d : BitVec 4) (b e : Selector) (c f : BitVec 8) :
    commandWord a b c &&& commandWord d e f = commandWord (a &&& d) (b &&& e) (c &&& f) := by
  show ((a ++ b ++ c : BitVec (4 + 4 + 8)) &&& (d ++ e ++ f : BitVec (4 + 4 + 8))) = _
  rw [BitVec.and_append, BitVec.and_append]
  rfl

/-- A mask and a match over a command word are a mask and a match over each of its fields. -/
theorem masked_iff_fields (cw : CommandWord) (a x : BitVec 4) (b y : Selector) (c z : BitVec 8) :
    cw &&& commandWord a b c = commandWord x y z ↔
      opField cw &&& a = x ∧ selField cw &&& b = y ∧ immField cw &&& c = z := by
  conv_lhs => rw [← commandWord_fields cw, commandWord_and, commandWord_inj]

theorem keep4 (x : BitVec 4) : x &&& 0xF = x := BitVec.and_allOnes

theorem keep8 (x : BitVec 8) : x &&& 0xFF = x := BitVec.and_allOnes

theorem keep16 (x : CommandWord) : x &&& 0xFFFF = x := BitVec.and_allOnes

/-- LED.SET's and LED.CLR's mask: `OP`, `SEL[3] = 0` and `IMM = 0`. -/
theorem masked_F8FF (cw : CommandWord) (op : BitVec 4) :
    cw &&& 0xF8FF = commandWord op 0 0 ↔ opField cw = op ∧ selField cw &&& 8 = 0 ∧ immField cw = 0 := by
  have h := masked_iff_fields cw 0xF op 8 0 0xFF 0
  rwa [keep4, keep8] at h

/-- LED.WR's mask: `OP` and `SEL = 0`. -/
theorem masked_FF00 (cw : CommandWord) (op : BitVec 4) :
    cw &&& 0xFF00 = commandWord op 0 0 ↔ opField cw = op ∧ selField cw = 0 := by
  have h := masked_iff_fields cw 0xF op 0xF 0 0 0
  rw [keep4, keep4] at h
  exact h.trans (by simp)

/-- The timer commands' mask: `OP` and `IMM = 0`. -/
theorem masked_F0FF (cw : CommandWord) (op : BitVec 4) :
    cw &&& 0xF0FF = commandWord op 0 0 ↔ opField cw = op ∧ immField cw = 0 := by
  have h := masked_iff_fields cw 0xF op 0 0 0xFF 0
  rw [keep4, keep8] at h
  exact h.trans (by simp)

/-- The decoder in terms of fields, in the order of the opcode map. -/
theorem decodeCommand_chain (npat : Nat) (cw : CommandWord) (din : Word32) :
    decodeCommand npat cw din =
      if cw = 0x0000 then .op .nop
      else if opField cw = 1 ∧ selField cw &&& 8 = 0 ∧ immField cw = 0 then .op (.ledSet (slotField cw))
      else if opField cw = 2 ∧ selField cw &&& 8 = 0 ∧ immField cw = 0 then .op (.ledClr (slotField cw))
      else if opField cw = 3 ∧ selField cw = 0 then .op (.ledWr (immField cw))
      else if cw = 0x4000 then .op .ledRd
      else if opField cw = 5 ∧ immField cw = 0 ∧ tmrWrLegal npat (selField cw) = true then
        .op (.tmrWr (selField cw) din)
      else if opField cw = 6 ∧ immField cw = 0 ∧ tmrRdLegal npat (selField cw) = true then
        .op (.tmrRd (selField cw))
      else if cw = 0x7000 then .op .wakeClr
      else .rejected (rejectCommand cw) := by
  have h1 : cw &&& 0xF8FF = 0x1000 ↔ _ := masked_F8FF cw 1
  have h2 : cw &&& 0xF8FF = 0x2000 ↔ _ := masked_F8FF cw 2
  have h3 : cw &&& 0xFF00 = 0x3000 ↔ _ := masked_FF00 cw 3
  have h5 : cw &&& 0xF0FF = 0x5000 ↔ _ := masked_F0FF cw 5
  have h6 : cw &&& 0xF0FF = 0x6000 ↔ _ := masked_F0FF cw 6
  simp only [decodeCommand, commandRows, decodeIn, CommandRow.accepts, CommandRow.hits, Bool.and_eq_true, beq_iff_eq,
    keep16, h1, h2, h3, h5, h6, Instr.wf, and_true, and_assoc]

end Sys2Proof
end

