-- ==== Sys2Proof/Laws/State.lean ====
section
/-! SUPPORT. What each named operation leaves in each field of State: one lemma per field per update, true by definition,
so that no proof unfolds a record update. -/

namespace Sys2Proof.Machine

@[simp] theorem beginOp_cfg (s : State) : (beginOp s).cfg = s.cfg := rfl
@[simp] theorem beginOp_led (s : State) : (beginOp s).led = s.led := rfl
@[simp] theorem beginOp_cur (s : State) : (beginOp s).cur = s.cur := rfl
@[simp] theorem beginOp_busDir (s : State) : (beginOp s).busDir = s.busDir := rfl
@[simp] theorem beginOp_busLvl (s : State) : (beginOp s).busLvl = s.busLvl := rfl
@[simp] theorem beginOp_pd (s : State) : (beginOp s).pd = s.pd := rfl
@[simp] theorem beginOp_deb0 (s : State) : (beginOp s).deb0 = s.deb0 := rfl
@[simp] theorem beginOp_deb1 (s : State) : (beginOp s).deb1 = s.deb1 := rfl
@[simp] theorem beginOp_shut (s : State) : (beginOp s).shut = s.shut := rfl
@[simp] theorem beginOp_wake (s : State) : (beginOp s).wake = s.wake := rfl
@[simp] theorem beginOp_pinTrace (s : State) : (beginOp s).pinTrace = [] := rfl
@[simp] theorem beginOp_dout (s : State) : (beginOp s).dout = none := rfl
@[simp] theorem beginOp_inputs (s : State) : (beginOp s).inputs = s.inputs := rfl
@[simp] theorem beginOp_choices (s : State) : (beginOp s).choices = s.choices := rfl

@[simp] theorem deliver_cfg (v : Word32) (s : State) : (deliver v s).cfg = s.cfg := rfl
@[simp] theorem deliver_led (v : Word32) (s : State) : (deliver v s).led = s.led := rfl
@[simp] theorem deliver_cur (v : Word32) (s : State) : (deliver v s).cur = s.cur := rfl
@[simp] theorem deliver_busDir (v : Word32) (s : State) : (deliver v s).busDir = s.busDir := rfl
@[simp] theorem deliver_busLvl (v : Word32) (s : State) : (deliver v s).busLvl = s.busLvl := rfl
@[simp] theorem deliver_pd (v : Word32) (s : State) : (deliver v s).pd = s.pd := rfl
@[simp] theorem deliver_deb0 (v : Word32) (s : State) : (deliver v s).deb0 = s.deb0 := rfl
@[simp] theorem deliver_deb1 (v : Word32) (s : State) : (deliver v s).deb1 = s.deb1 := rfl
@[simp] theorem deliver_shut (v : Word32) (s : State) : (deliver v s).shut = s.shut := rfl
@[simp] theorem deliver_wake (v : Word32) (s : State) : (deliver v s).wake = s.wake := rfl
@[simp] theorem deliver_pinTrace (v : Word32) (s : State) : (deliver v s).pinTrace = s.pinTrace := rfl
@[simp] theorem deliver_dout (v : Word32) (s : State) : (deliver v s).dout = some v := rfl
@[simp] theorem deliver_inputs (v : Word32) (s : State) : (deliver v s).inputs = s.inputs := rfl
@[simp] theorem deliver_choices (v : Word32) (s : State) : (deliver v s).choices = s.choices := rfl

@[simp] theorem takeSnapshot_cfg (s : State) : (takeSnapshot s).cfg = s.cfg := rfl
@[simp] theorem takeSnapshot_led (s : State) : (takeSnapshot s).led = s.led := rfl
@[simp] theorem takeSnapshot_cur (s : State) : (takeSnapshot s).cur = s.cur := rfl
@[simp] theorem takeSnapshot_busDir (s : State) : (takeSnapshot s).busDir = s.busDir := rfl
@[simp] theorem takeSnapshot_busLvl (s : State) : (takeSnapshot s).busLvl = s.busLvl := rfl
@[simp] theorem takeSnapshot_pd (s : State) : (takeSnapshot s).pd = s.pd := rfl
@[simp] theorem takeSnapshot_deb0 (s : State) : (takeSnapshot s).deb0 = s.deb0 := rfl
@[simp] theorem takeSnapshot_deb1 (s : State) : (takeSnapshot s).deb1 = s.deb1 := rfl
@[simp] theorem takeSnapshot_shut (s : State) : (takeSnapshot s).shut = s.shut := rfl
@[simp] theorem takeSnapshot_wake (s : State) : (takeSnapshot s).wake = s.wake := rfl
@[simp] theorem takeSnapshot_pinTrace (s : State) : (takeSnapshot s).pinTrace = s.pinTrace ++ [busNow s] := rfl
@[simp] theorem takeSnapshot_dout (s : State) : (takeSnapshot s).dout = s.dout := rfl
@[simp] theorem takeSnapshot_inputs (s : State) : (takeSnapshot s).inputs = s.inputs := rfl
@[simp] theorem takeSnapshot_choices (s : State) : (takeSnapshot s).choices = s.choices := rfl

@[simp] theorem busWrite_dir_cfg (v : PinMask) (s : State) : (busWrite .dir v s).cfg = s.cfg := rfl
@[simp] theorem busWrite_dir_led (v : PinMask) (s : State) : (busWrite .dir v s).led = s.led := rfl
@[simp] theorem busWrite_dir_cur (v : PinMask) (s : State) : (busWrite .dir v s).cur = s.cur := rfl
@[simp] theorem busWrite_dir_busDir (v : PinMask) (s : State) : (busWrite .dir v s).busDir = v := rfl
@[simp] theorem busWrite_dir_busLvl (v : PinMask) (s : State) : (busWrite .dir v s).busLvl = s.busLvl := rfl
@[simp] theorem busWrite_dir_pd (v : PinMask) (s : State) : (busWrite .dir v s).pd = s.pd := rfl
@[simp] theorem busWrite_dir_deb0 (v : PinMask) (s : State) : (busWrite .dir v s).deb0 = s.deb0 := rfl
@[simp] theorem busWrite_dir_deb1 (v : PinMask) (s : State) : (busWrite .dir v s).deb1 = s.deb1 := rfl
@[simp] theorem busWrite_dir_shut (v : PinMask) (s : State) : (busWrite .dir v s).shut = s.shut := rfl
@[simp] theorem busWrite_dir_wake (v : PinMask) (s : State) : (busWrite .dir v s).wake = s.wake := rfl
@[simp] theorem busWrite_dir_pinTrace (v : PinMask) (s : State) : (busWrite .dir v s).pinTrace = s.pinTrace ++ [⟨v, s.busLvl⟩] := rfl
@[simp] theorem busWrite_dir_dout (v : PinMask) (s : State) : (busWrite .dir v s).dout = s.dout := rfl
@[simp] theorem busWrite_dir_inputs (v : PinMask) (s : State) : (busWrite .dir v s).inputs = s.inputs := rfl
@[simp] theorem busWrite_dir_choices (v : PinMask) (s : State) : (busWrite .dir v s).choices = s.choices := rfl

@[simp] theorem busWrite_lvl_cfg (v : PinMask) (s : State) : (busWrite .lvl v s).cfg = s.cfg := rfl
@[simp] theorem busWrite_lvl_led (v : PinMask) (s : State) : (busWrite .lvl v s).led = s.led := rfl
@[simp] theorem busWrite_lvl_cur (v : PinMask) (s : State) : (busWrite .lvl v s).cur = s.cur := rfl
@[simp] theorem busWrite_lvl_busDir (v : PinMask) (s : State) : (busWrite .lvl v s).busDir = s.busDir := rfl
@[simp] theorem busWrite_lvl_busLvl (v : PinMask) (s : State) : (busWrite .lvl v s).busLvl = v := rfl
@[simp] theorem busWrite_lvl_pd (v : PinMask) (s : State) : (busWrite .lvl v s).pd = s.pd := rfl
@[simp] theorem busWrite_lvl_deb0 (v : PinMask) (s : State) : (busWrite .lvl v s).deb0 = s.deb0 := rfl
@[simp] theorem busWrite_lvl_deb1 (v : PinMask) (s : State) : (busWrite .lvl v s).deb1 = s.deb1 := rfl
@[simp] theorem busWrite_lvl_shut (v : PinMask) (s : State) : (busWrite .lvl v s).shut = s.shut := rfl
@[simp] theorem busWrite_lvl_wake (v : PinMask) (s : State) : (busWrite .lvl v s).wake = s.wake := rfl
@[simp] theorem busWrite_lvl_pinTrace (v : PinMask) (s : State) : (busWrite .lvl v s).pinTrace = s.pinTrace ++ [⟨s.busDir, v⟩] := rfl
@[simp] theorem busWrite_lvl_dout (v : PinMask) (s : State) : (busWrite .lvl v s).dout = s.dout := rfl
@[simp] theorem busWrite_lvl_inputs (v : PinMask) (s : State) : (busWrite .lvl v s).inputs = s.inputs := rfl
@[simp] theorem busWrite_lvl_choices (v : PinMask) (s : State) : (busWrite .lvl v s).choices = s.choices := rfl

@[simp] theorem setLed_cfg (m : LedMask) (s : State) : (setLed m s).cfg = s.cfg := rfl
@[simp] theorem setLed_led (m : LedMask) (s : State) : (setLed m s).led = m := rfl
@[simp] theorem setLed_cur (m : LedMask) (s : State) : (setLed m s).cur = s.cur := rfl
@[simp] theorem setLed_busDir (m : LedMask) (s : State) : (setLed m s).busDir = s.busDir := rfl
@[simp] theorem setLed_busLvl (m : LedMask) (s : State) : (setLed m s).busLvl = s.busLvl := rfl
@[simp] theorem setLed_pd (m : LedMask) (s : State) : (setLed m s).pd = s.pd := rfl
@[simp] theorem setLed_deb0 (m : LedMask) (s : State) : (setLed m s).deb0 = s.deb0 := rfl
@[simp] theorem setLed_deb1 (m : LedMask) (s : State) : (setLed m s).deb1 = s.deb1 := rfl
@[simp] theorem setLed_shut (m : LedMask) (s : State) : (setLed m s).shut = s.shut := rfl
@[simp] theorem setLed_wake (m : LedMask) (s : State) : (setLed m s).wake = s.wake := rfl
@[simp] theorem setLed_pinTrace (m : LedMask) (s : State) : (setLed m s).pinTrace = s.pinTrace := rfl
@[simp] theorem setLed_dout (m : LedMask) (s : State) : (setLed m s).dout = s.dout := rfl
@[simp] theorem setLed_inputs (m : LedMask) (s : State) : (setLed m s).inputs = s.inputs := rfl
@[simp] theorem setLed_choices (m : LedMask) (s : State) : (setLed m s).choices = s.choices := rfl

@[simp] theorem writeCounter_pd_cfg (i : Nat) (v : Word32) (s : State) : (writeCounter (.pd i) v s).cfg = s.cfg := rfl
@[simp] theorem writeCounter_pd_led (i : Nat) (v : Word32) (s : State) : (writeCounter (.pd i) v s).led = s.led := rfl
@[simp] theorem writeCounter_pd_cur (i : Nat) (v : Word32) (s : State) : (writeCounter (.pd i) v s).cur = s.cur := rfl
@[simp] theorem writeCounter_pd_busDir (i : Nat) (v : Word32) (s : State) : (writeCounter (.pd i) v s).busDir = s.busDir := rfl
@[simp] theorem writeCounter_pd_busLvl (i : Nat) (v : Word32) (s : State) : (writeCounter (.pd i) v s).busLvl = s.busLvl := rfl
@[simp] theorem writeCounter_pd_pd (i : Nat) (v : Word32) (s : State) : (writeCounter (.pd i) v s).pd = s.pd.set i v := rfl
@[simp] theorem writeCounter_pd_deb0 (i : Nat) (v : Word32) (s : State) : (writeCounter (.pd i) v s).deb0 = s.deb0 := rfl
@[simp] theorem writeCounter_pd_deb1 (i : Nat) (v : Word32) (s : State) : (writeCounter (.pd i) v s).deb1 = s.deb1 := rfl
@[simp] theorem writeCounter_pd_shut (i : Nat) (v : Word32) (s : State) : (writeCounter (.pd i) v s).shut = s.shut := rfl
@[simp] theorem writeCounter_pd_wake (i : Nat) (v : Word32) (s : State) : (writeCounter (.pd i) v s).wake = s.wake := rfl
@[simp] theorem writeCounter_pd_pinTrace (i : Nat) (v : Word32) (s : State) : (writeCounter (.pd i) v s).pinTrace = s.pinTrace := rfl
@[simp] theorem writeCounter_pd_dout (i : Nat) (v : Word32) (s : State) : (writeCounter (.pd i) v s).dout = s.dout := rfl
@[simp] theorem writeCounter_pd_inputs (i : Nat) (v : Word32) (s : State) : (writeCounter (.pd i) v s).inputs = s.inputs := rfl
@[simp] theorem writeCounter_pd_choices (i : Nat) (v : Word32) (s : State) : (writeCounter (.pd i) v s).choices = s.choices := rfl

@[simp] theorem writeCounter_deb0_cfg (v : Word32) (s : State) : (writeCounter .deb0 v s).cfg = s.cfg := rfl
@[simp] theorem writeCounter_deb0_led (v : Word32) (s : State) : (writeCounter .deb0 v s).led = s.led := rfl
@[simp] theorem writeCounter_deb0_cur (v : Word32) (s : State) : (writeCounter .deb0 v s).cur = s.cur := rfl
@[simp] theorem writeCounter_deb0_busDir (v : Word32) (s : State) : (writeCounter .deb0 v s).busDir = s.busDir := rfl
@[simp] theorem writeCounter_deb0_busLvl (v : Word32) (s : State) : (writeCounter .deb0 v s).busLvl = s.busLvl := rfl
@[simp] theorem writeCounter_deb0_pd (v : Word32) (s : State) : (writeCounter .deb0 v s).pd = s.pd := rfl
@[simp] theorem writeCounter_deb0_deb0 (v : Word32) (s : State) : (writeCounter .deb0 v s).deb0 = v := rfl
@[simp] theorem writeCounter_deb0_deb1 (v : Word32) (s : State) : (writeCounter .deb0 v s).deb1 = s.deb1 := rfl
@[simp] theorem writeCounter_deb0_shut (v : Word32) (s : State) : (writeCounter .deb0 v s).shut = s.shut := rfl
@[simp] theorem writeCounter_deb0_wake (v : Word32) (s : State) : (writeCounter .deb0 v s).wake = s.wake := rfl
@[simp] theorem writeCounter_deb0_pinTrace (v : Word32) (s : State) : (writeCounter .deb0 v s).pinTrace = s.pinTrace := rfl
@[simp] theorem writeCounter_deb0_dout (v : Word32) (s : State) : (writeCounter .deb0 v s).dout = s.dout := rfl
@[simp] theorem writeCounter_deb0_inputs (v : Word32) (s : State) : (writeCounter .deb0 v s).inputs = s.inputs := rfl
@[simp] theorem writeCounter_deb0_choices (v : Word32) (s : State) : (writeCounter .deb0 v s).choices = s.choices := rfl

@[simp] theorem writeCounter_deb1_cfg (v : Word32) (s : State) : (writeCounter .deb1 v s).cfg = s.cfg := rfl
@[simp] theorem writeCounter_deb1_led (v : Word32) (s : State) : (writeCounter .deb1 v s).led = s.led := rfl
@[simp] theorem writeCounter_deb1_cur (v : Word32) (s : State) : (writeCounter .deb1 v s).cur = s.cur := rfl
@[simp] theorem writeCounter_deb1_busDir (v : Word32) (s : State) : (writeCounter .deb1 v s).busDir = s.busDir := rfl
@[simp] theorem writeCounter_deb1_busLvl (v : Word32) (s : State) : (writeCounter .deb1 v s).busLvl = s.busLvl := rfl
@[simp] theorem writeCounter_deb1_pd (v : Word32) (s : State) : (writeCounter .deb1 v s).pd = s.pd := rfl
@[simp] theorem writeCounter_deb1_deb0 (v : Word32) (s : State) : (writeCounter .deb1 v s).deb0 = s.deb0 := rfl
@[simp] theorem writeCounter_deb1_deb1 (v : Word32) (s : State) : (writeCounter .deb1 v s).deb1 = v := rfl
@[simp] theorem writeCounter_deb1_shut (v : Word32) (s : State) : (writeCounter .deb1 v s).shut = s.shut := rfl
@[simp] theorem writeCounter_deb1_wake (v : Word32) (s : State) : (writeCounter .deb1 v s).wake = s.wake := rfl
@[simp] theorem writeCounter_deb1_pinTrace (v : Word32) (s : State) : (writeCounter .deb1 v s).pinTrace = s.pinTrace := rfl
@[simp] theorem writeCounter_deb1_dout (v : Word32) (s : State) : (writeCounter .deb1 v s).dout = s.dout := rfl
@[simp] theorem writeCounter_deb1_inputs (v : Word32) (s : State) : (writeCounter .deb1 v s).inputs = s.inputs := rfl
@[simp] theorem writeCounter_deb1_choices (v : Word32) (s : State) : (writeCounter .deb1 v s).choices = s.choices := rfl

@[simp] theorem writeCounter_shut_cfg (v : Word32) (s : State) : (writeCounter .shut v s).cfg = s.cfg := rfl
@[simp] theorem writeCounter_shut_led (v : Word32) (s : State) : (writeCounter .shut v s).led = s.led := rfl
@[simp] theorem writeCounter_shut_cur (v : Word32) (s : State) : (writeCounter .shut v s).cur = s.cur := rfl
@[simp] theorem writeCounter_shut_busDir (v : Word32) (s : State) : (writeCounter .shut v s).busDir = s.busDir := rfl
@[simp] theorem writeCounter_shut_busLvl (v : Word32) (s : State) : (writeCounter .shut v s).busLvl = s.busLvl := rfl
@[simp] theorem writeCounter_shut_pd (v : Word32) (s : State) : (writeCounter .shut v s).pd = s.pd := rfl
@[simp] theorem writeCounter_shut_deb0 (v : Word32) (s : State) : (writeCounter .shut v s).deb0 = s.deb0 := rfl
@[simp] theorem writeCounter_shut_deb1 (v : Word32) (s : State) : (writeCounter .shut v s).deb1 = s.deb1 := rfl
@[simp] theorem writeCounter_shut_shut (v : Word32) (s : State) : (writeCounter .shut v s).shut = v := rfl
@[simp] theorem writeCounter_shut_wake (v : Word32) (s : State) : (writeCounter .shut v s).wake = s.wake := rfl
@[simp] theorem writeCounter_shut_pinTrace (v : Word32) (s : State) : (writeCounter .shut v s).pinTrace = s.pinTrace := rfl
@[simp] theorem writeCounter_shut_dout (v : Word32) (s : State) : (writeCounter .shut v s).dout = s.dout := rfl
@[simp] theorem writeCounter_shut_inputs (v : Word32) (s : State) : (writeCounter .shut v s).inputs = s.inputs := rfl
@[simp] theorem writeCounter_shut_choices (v : Word32) (s : State) : (writeCounter .shut v s).choices = s.choices := rfl

@[simp] theorem writeCounter_wake_cfg (v : Word32) (s : State) : (writeCounter .wake v s).cfg = s.cfg := rfl
@[simp] theorem writeCounter_wake_led (v : Word32) (s : State) : (writeCounter .wake v s).led = s.led := rfl
@[simp] theorem writeCounter_wake_cur (v : Word32) (s : State) : (writeCounter .wake v s).cur = s.cur := rfl
@[simp] theorem writeCounter_wake_busDir (v : Word32) (s : State) : (writeCounter .wake v s).busDir = s.busDir := rfl
@[simp] theorem writeCounter_wake_busLvl (v : Word32) (s : State) : (writeCounter .wake v s).busLvl = s.busLvl := rfl
@[simp] theorem writeCounter_wake_pd (v : Word32) (s : State) : (writeCounter .wake v s).pd = s.pd := rfl
@[simp] theorem writeCounter_wake_deb0 (v : Word32) (s : State) : (writeCounter .wake v s).deb0 = s.deb0 := rfl
@[simp] theorem writeCounter_wake_deb1 (v : Word32) (s : State) : (writeCounter .wake v s).deb1 = s.deb1 := rfl
@[simp] theorem writeCounter_wake_shut (v : Word32) (s : State) : (writeCounter .wake v s).shut = s.shut := rfl
@[simp] theorem writeCounter_wake_wake (v : Word32) (s : State) : (writeCounter .wake v s).wake = v := rfl
@[simp] theorem writeCounter_wake_pinTrace (v : Word32) (s : State) : (writeCounter .wake v s).pinTrace = s.pinTrace := rfl
@[simp] theorem writeCounter_wake_dout (v : Word32) (s : State) : (writeCounter .wake v s).dout = s.dout := rfl
@[simp] theorem writeCounter_wake_inputs (v : Word32) (s : State) : (writeCounter .wake v s).inputs = s.inputs := rfl
@[simp] theorem writeCounter_wake_choices (v : Word32) (s : State) : (writeCounter .wake v s).choices = s.choices := rfl

@[simp] theorem baseline_cfg (s : State) : (baseline s).cfg = s.cfg := rfl
@[simp] theorem baseline_led (s : State) : (baseline s).led = s.led := rfl
@[simp] theorem baseline_cur (s : State) : (baseline s).cur = s.cur := rfl
@[simp] theorem baseline_busDir (s : State) : (baseline s).busDir = 0b1111 := rfl
@[simp] theorem baseline_busLvl (s : State) : (baseline s).busLvl = 0b0000 := rfl
@[simp] theorem baseline_pd (s : State) : (baseline s).pd = s.pd := rfl
@[simp] theorem baseline_deb0 (s : State) : (baseline s).deb0 = s.deb0 := rfl
@[simp] theorem baseline_deb1 (s : State) : (baseline s).deb1 = s.deb1 := rfl
@[simp] theorem baseline_shut (s : State) : (baseline s).shut = s.shut := rfl
@[simp] theorem baseline_wake (s : State) : (baseline s).wake = s.wake := rfl
@[simp] theorem baseline_pinTrace (s : State) : (baseline s).pinTrace = s.pinTrace ++ [⟨s.busDir, 0⟩] ++ [⟨0b1111, 0⟩] := rfl
@[simp] theorem baseline_dout (s : State) : (baseline s).dout = s.dout := rfl
@[simp] theorem baseline_inputs (s : State) : (baseline s).inputs = s.inputs := rfl
@[simp] theorem baseline_choices (s : State) : (baseline s).choices = s.choices := rfl

@[simp] theorem epoch_cfg (s : State) : (epoch s).cfg = s.cfg := rfl
@[simp] theorem epoch_led (s : State) : (epoch s).led = s.led := rfl
@[simp] theorem epoch_cur (s : State) : (epoch s).cur = s.cur := rfl
@[simp] theorem epoch_busDir (s : State) : (epoch s).busDir = s.busDir := rfl
@[simp] theorem epoch_busLvl (s : State) : (epoch s).busLvl = s.busLvl := rfl
@[simp] theorem epoch_pd (s : State) : (epoch s).pd = s.pd.map satdec := rfl
@[simp] theorem epoch_deb0 (s : State) : (epoch s).deb0 = satdec s.deb0 := rfl
@[simp] theorem epoch_deb1 (s : State) : (epoch s).deb1 = satdec s.deb1 := rfl
@[simp] theorem epoch_shut (s : State) : (epoch s).shut = satdec s.shut := rfl
@[simp] theorem epoch_wake (s : State) : (epoch s).wake = incTo s.cfg.wWake s.wake := rfl
@[simp] theorem epoch_pinTrace (s : State) : (epoch s).pinTrace = s.pinTrace := rfl
@[simp] theorem epoch_dout (s : State) : (epoch s).dout = s.dout := rfl
@[simp] theorem epoch_inputs (s : State) : (epoch s).inputs = s.inputs := rfl
@[simp] theorem epoch_choices (s : State) : (epoch s).choices = s.choices := rfl

@[simp] theorem clearAll_cfg (s : State) : (clearAll s).cfg = s.cfg := rfl
@[simp] theorem clearAll_led (s : State) : (clearAll s).led = 0 := rfl
@[simp] theorem clearAll_cur (s : State) : (clearAll s).cur = 0 := rfl
@[simp] theorem clearAll_busDir (s : State) : (clearAll s).busDir = 0 := rfl
@[simp] theorem clearAll_busLvl (s : State) : (clearAll s).busLvl = 0 := rfl
@[simp] theorem clearAll_pd (s : State) : (clearAll s).pd = List.replicate s.cfg.npat 0 := rfl
@[simp] theorem clearAll_deb0 (s : State) : (clearAll s).deb0 = 0 := rfl
@[simp] theorem clearAll_deb1 (s : State) : (clearAll s).deb1 = 0 := rfl
@[simp] theorem clearAll_shut (s : State) : (clearAll s).shut = 0 := rfl
@[simp] theorem clearAll_wake (s : State) : (clearAll s).wake = 0 := rfl
@[simp] theorem clearAll_pinTrace (s : State) : (clearAll s).pinTrace = s.pinTrace ++ [⟨0, 0⟩] := rfl
@[simp] theorem clearAll_dout (s : State) : (clearAll s).dout = s.dout := rfl
@[simp] theorem clearAll_inputs (s : State) : (clearAll s).inputs = s.inputs := rfl
@[simp] theorem clearAll_choices (s : State) : (clearAll s).choices = s.choices := rfl

@[simp] theorem afterChoice_cfg (l : List Arrival) (s : State) : (afterChoice l s).cfg = s.cfg := rfl
@[simp] theorem afterChoice_led (l : List Arrival) (s : State) : (afterChoice l s).led = s.led := rfl
@[simp] theorem afterChoice_cur (l : List Arrival) (s : State) : (afterChoice l s).cur = s.cur := rfl
@[simp] theorem afterChoice_busDir (l : List Arrival) (s : State) : (afterChoice l s).busDir = s.busDir := rfl
@[simp] theorem afterChoice_busLvl (l : List Arrival) (s : State) : (afterChoice l s).busLvl = s.busLvl := rfl
@[simp] theorem afterChoice_pd (l : List Arrival) (s : State) : (afterChoice l s).pd = s.pd := rfl
@[simp] theorem afterChoice_deb0 (l : List Arrival) (s : State) : (afterChoice l s).deb0 = s.deb0 := rfl
@[simp] theorem afterChoice_deb1 (l : List Arrival) (s : State) : (afterChoice l s).deb1 = s.deb1 := rfl
@[simp] theorem afterChoice_shut (l : List Arrival) (s : State) : (afterChoice l s).shut = s.shut := rfl
@[simp] theorem afterChoice_wake (l : List Arrival) (s : State) : (afterChoice l s).wake = s.wake := rfl
@[simp] theorem afterChoice_pinTrace (l : List Arrival) (s : State) : (afterChoice l s).pinTrace = s.pinTrace := rfl
@[simp] theorem afterChoice_dout (l : List Arrival) (s : State) : (afterChoice l s).dout = s.dout := rfl
@[simp] theorem afterChoice_inputs (l : List Arrival) (s : State) : (afterChoice l s).inputs = l := rfl
@[simp] theorem afterChoice_choices (l : List Arrival) (s : State) : (afterChoice l s).choices = s.choices + 1 := rfl

@[simp] theorem present_cfg (a : Arrival) (s : State) : (present a s).cfg = s.cfg := rfl
@[simp] theorem present_led (a : Arrival) (s : State) : (present a s).led = s.led := rfl
@[simp] theorem present_cur (a : Arrival) (s : State) : (present a s).cur = s.cur := rfl
@[simp] theorem present_busDir (a : Arrival) (s : State) : (present a s).busDir = s.busDir := rfl
@[simp] theorem present_busLvl (a : Arrival) (s : State) : (present a s).busLvl = s.busLvl := rfl
@[simp] theorem present_pd (a : Arrival) (s : State) : (present a s).pd = s.pd := rfl
@[simp] theorem present_deb0 (a : Arrival) (s : State) : (present a s).deb0 = s.deb0 := rfl
@[simp] theorem present_deb1 (a : Arrival) (s : State) : (present a s).deb1 = s.deb1 := rfl
@[simp] theorem present_shut (a : Arrival) (s : State) : (present a s).shut = s.shut := rfl
@[simp] theorem present_wake (a : Arrival) (s : State) : (present a s).wake = s.wake := rfl
@[simp] theorem present_pinTrace (a : Arrival) (s : State) : (present a s).pinTrace = s.pinTrace := rfl
@[simp] theorem present_dout (a : Arrival) (s : State) : (present a s).dout = s.dout := rfl
@[simp] theorem present_inputs (a : Arrival) (s : State) : (present a s).inputs = a :: s.inputs := rfl
@[simp] theorem present_choices (a : Arrival) (s : State) : (present a s).choices = s.choices := rfl

@[simp] theorem resetWith_cfg (c : Config) : (State.resetWith c).cfg = c := rfl
@[simp] theorem resetWith_led (c : Config) : (State.resetWith c).led = 0 := rfl
@[simp] theorem resetWith_cur (c : Config) : (State.resetWith c).cur = 0 := rfl
@[simp] theorem resetWith_busDir (c : Config) : (State.resetWith c).busDir = 0 := rfl
@[simp] theorem resetWith_busLvl (c : Config) : (State.resetWith c).busLvl = 0 := rfl
@[simp] theorem resetWith_pd (c : Config) : (State.resetWith c).pd = List.replicate c.npat 0 := rfl
@[simp] theorem resetWith_deb0 (c : Config) : (State.resetWith c).deb0 = 0 := rfl
@[simp] theorem resetWith_deb1 (c : Config) : (State.resetWith c).deb1 = 0 := rfl
@[simp] theorem resetWith_shut (c : Config) : (State.resetWith c).shut = 0 := rfl
@[simp] theorem resetWith_wake (c : Config) : (State.resetWith c).wake = 0 := rfl
@[simp] theorem resetWith_pinTrace (c : Config) : (State.resetWith c).pinTrace = [⟨0, 0⟩] := rfl
@[simp] theorem resetWith_dout (c : Config) : (State.resetWith c).dout = none := rfl
@[simp] theorem resetWith_inputs (c : Config) : (State.resetWith c).inputs = [] := rfl
@[simp] theorem resetWith_choices (c : Config) : (State.resetWith c).choices = 0 := rfl

end Sys2Proof.Machine
end

