-- ==== Sys2Proof/Laws/Ops.lean ====
section
/-! SUPPORT. What each shared operation can do, said once: later proofs cite these instead of unfolding the operations. -/

namespace Sys2Proof.Machine

/-! ## Numbers -/

theorem satdec_toNat (x : Word32) : (satdec x).toNat = x.toNat - 1 := by
  unfold satdec
  split
  · simp_all
  · bv_omega

@[simp] theorem satdec_zero : satdec 0 = 0 := rfl

theorem truncTo_toNat (w : Nat) (v : Word32) : (truncTo w v).toNat = v.toNat % 2 ^ w := by
  have h : v.toNat % 2 ^ w < 2 ^ 32 := Nat.lt_of_le_of_lt (Nat.mod_le _ _) v.isLt
  rw [truncTo, BitVec.toNat_setWidth, BitVec.toNat_setWidth, Nat.mod_eq_of_lt h]

theorem truncTo_of_fits {w : Nat} {v : Word32} (h : v.toNat < 2 ^ w) : truncTo w v = v := by
  apply BitVec.eq_of_toNat_eq
  rw [truncTo_toNat, Nat.mod_eq_of_lt h]

theorem truncTo_fits (w : Nat) (v : Word32) : (truncTo w v).toNat < 2 ^ w := by
  rw [truncTo_toNat]
  exact Nat.mod_lt _ (Nat.two_pow_pos w)

theorem incTo_toNat {w : Nat} (hw : w ≤ 32) (x : Word32) : (incTo w x).toNat = (x.toNat + 1) % 2 ^ w := by
  rw [incTo, truncTo_toNat, BitVec.toNat_add]
  exact Nat.mod_mod_of_dvd _ (Nat.pow_dvd_pow 2 hw)

theorem zextLed_toNat (m : LedMask) : (zextLed m).toNat = m.toNat := by
  rw [zextLed, BitVec.toNat_setWidth, Nat.mod_eq_of_lt (Nat.lt_trans m.isLt (by decide))]

/-! ## LED bits -/

theorem slotMask_getLsbD (k j : Slot) : (slotMask k).getLsbD j.toNat = decide (j = k) := by
  revert k j
  decide

theorem slotRequested_eq (m : LedMask) (k : Slot) : slotRequested m k = m.getLsbD k.toNat := by
  revert m k
  decide +kernel

theorem setLed_bit (m : LedMask) (k j : Slot) :
    (m ||| slotMask k).getLsbD j.toNat = if j = k then true else m.getLsbD j.toNat := by
  by_cases h : j = k <;> simp [slotMask_getLsbD, h]

theorem clrLed_bit (m : LedMask) (k j : Slot) :
    (m &&& ~~~slotMask k).getLsbD j.toNat = if j = k then false else m.getLsbD j.toNat := by
  have hj : j.toNat < 8 := j.isLt
  by_cases h : j = k <;> simp [slotMask_getLsbD, h]
  omega

theorem epochReached_iff (k : Slot) : epochReached (k + 1) = true ↔ k = 7 := by
  revert k
  decide

/-! ## Selectors and counters -/

/-- A selector names `PD[s]` below `NPAT`, a fixed register from 0xC up, and nothing between (R39, R82). -/
theorem selected_cases (npat : Nat) (s : Selector) :
    (s.toNat < npat ∧ selected npat s = some (.pd s.toNat)) ∨
    (npat ≤ s.toNat ∧
      ((s = 0xC ∧ selected npat s = some .deb0) ∨ (s = 0xD ∧ selected npat s = some .deb1) ∨
       (s = 0xE ∧ selected npat s = some .shut) ∨ (s = 0xF ∧ selected npat s = some .wake) ∨
       (s.toNat ≤ 0xB ∧ selected npat s = none))) := by
  unfold selected
  by_cases h : s.toNat < npat
  · exact .inl ⟨h, if_pos h⟩
  · rw [if_neg h]
    refine .inr ⟨Nat.le_of_not_lt h, ?_⟩
    split
    · exact .inl ⟨‹_›, rfl⟩
    split
    · exact .inr (.inl ⟨‹_›, rfl⟩)
    split
    · exact .inr (.inr (.inl ⟨‹_›, rfl⟩))
    split
    · exact .inr (.inr (.inr (.inl ⟨‹_›, rfl⟩)))
    · exact .inr (.inr (.inr (.inr ⟨by bv_omega, rfl⟩)))

/-- A pattern counter that a selector names lies in the bank. -/
theorem selected_pd_lt {npat : Nat} {s : Selector} {i : Nat} (h : selected npat s = some (.pd i)) : i < npat := by
  rcases selected_cases npat s with ⟨hs, he⟩ | ⟨-, ⟨-, he⟩ | ⟨-, he⟩ | ⟨-, he⟩ | ⟨-, he⟩ | ⟨-, he⟩⟩ <;> rw [he] at h <;> cases h
  exact hs

theorem readCounter_writeCounter_same (c : Counter) (v : Word32) (s : State)
    (h : ∀ i, c = .pd i → i < s.pd.length) : readCounter c (writeCounter c v s) = v := by
  cases c with
  | pd i => simp [readCounter, writeCounter, h i rfl]
  | deb0 => rfl
  | deb1 => rfl
  | shut => rfl
  | wake => rfl

theorem readCounter_writeCounter_other {c d : Counter} (h : d ≠ c) (v : Word32) (s : State) :
    readCounter d (writeCounter c v s) = readCounter d s := by
  cases c <;> cases d <;> first | rfl | contradiction | skip
  rename_i i j
  have hij : i ≠ j := fun e => h (by rw [e])
  simp [readCounter, writeCounter, List.getElem?_set_ne hij]

/-- The fixed selectors, where `NPAT` leaves room for them (R7, R39). -/
theorem selected_deb0 {npat : Nat} (h : npat ≤ 12) : selected npat 0xC = some .deb0 :=
  if_neg (Nat.not_lt.mpr h)

theorem selected_deb1 {npat : Nat} (h : npat ≤ 12) : selected npat 0xD = some .deb1 :=
  if_neg (Nat.not_lt.mpr (Nat.le_trans h (by decide)))

theorem selected_shut {npat : Nat} (h : npat ≤ 12) : selected npat 0xE = some .shut :=
  if_neg (Nat.not_lt.mpr (Nat.le_trans h (by decide)))

theorem selected_wake {npat : Nat} (h : npat ≤ 12) : selected npat 0xF = some .wake :=
  if_neg (Nat.not_lt.mpr (Nat.le_trans h (by decide)))

theorem selected_pd {npat : Nat} {s : Selector} (h : s.toNat < npat) : selected npat s = some (.pd s.toNat) :=
  if_pos h

/-- All that TMR.WR can do (R83). -/
theorem tmrWr_cases (sel : Selector) (v : Word32) (s : State) :
    (sel = 0xF ∧ exec (.tmrWr sel v) s = .refused .wakeNotWritable) ∨
    (sel ≠ 0xF ∧
      ((selected s.cfg.npat sel = none ∧ exec (.tmrWr sel v) s = .refused (.reservedSelector sel)) ∨
       ∃ c, selected s.cfg.npat sel = some c ∧
        exec (.tmrWr sel v) s = .next (writeCounter c (truncTo (widthOf s.cfg c) v) (beginOp s)))) := by
  simp only [exec, execTmrWr]
  by_cases h : sel = 0xF
  · exact .inl ⟨h, if_pos h⟩
  · refine .inr ⟨h, ?_⟩
    rw [if_neg h]
    cases hc : selected s.cfg.npat sel with
    | none => exact .inl ⟨rfl, rfl⟩
    | some c => exact .inr ⟨c, rfl, rfl⟩

/-- All that TMR.RD can do (R84). -/
theorem tmrRd_cases (sel : Selector) (s : State) :
    (selected s.cfg.npat sel = none ∧ exec (.tmrRd sel) s = .refused (.reservedSelector sel)) ∨
    ∃ c, selected s.cfg.npat sel = some c ∧
      exec (.tmrRd sel) s = .next (deliver (readCounter c s) (beginOp s)) := by
  simp only [exec, execTmrRd]
  cases hc : selected s.cfg.npat sel with
  | none => exact .inl ⟨rfl, rfl⟩
  | some c => exact .inr ⟨c, rfl, rfl⟩

/-- A write to a counter leaves everything but the bank. -/
theorem writeCounter_outside (c : Counter) (v : Word32) (s : State) :
    (writeCounter c v s).cfg = s.cfg ∧ (writeCounter c v s).led = s.led ∧ (writeCounter c v s).cur = s.cur ∧
    (writeCounter c v s).busDir = s.busDir ∧ (writeCounter c v s).busLvl = s.busLvl ∧
    (writeCounter c v s).pinTrace = s.pinTrace ∧ (writeCounter c v s).dout = s.dout ∧
    (writeCounter c v s).inputs = s.inputs ∧ (writeCounter c v s).choices = s.choices := by
  cases c <;> exact ⟨rfl, rfl, rfl, rfl, rfl, rfl, rfl, rfl, rfl⟩

/-! ## The bus -/

/-- Step 1 and steps 2 and 3 of a TICK (R63 to R65): the only two things they can do to the state. -/
theorem applyRow_cases (k : Slot) (s : State) :
    (s.led.getLsbD k.toNat = true ∧ applyRow k s =
      { s with
        busDir := dirRow s.cfg k
        busLvl := lvlRow s.cfg k
        pinTrace := s.pinTrace ++ [⟨dirRow s.cfg k, s.busLvl⟩] ++ [⟨dirRow s.cfg k, lvlRow s.cfg k⟩] }) ∨
    (s.led.getLsbD k.toNat = false ∧ applyRow k s = s) := by
  cases h : s.led.getLsbD k.toNat
  · exact .inr ⟨rfl, by simp [applyRow, slotRequested_eq, h]⟩
  · exact .inl ⟨rfl, by simp [applyRow, slotRequested_eq, h, busWrite, takeSnapshot, busNow]⟩

/-- Step 4 of a TICK (R66 to R71): the cursor moves, and the bank is counted only from slot 7. -/
theorem advance_cases (s : State) :
    (s.cur = 7 ∧ advance s = epoch { s with cur := 0 }) ∨ (s.cur ≠ 7 ∧ advance s = { s with cur := s.cur + 1 }) := by
  by_cases h : s.cur = 7
  · exact .inl ⟨h, by simp [advance, h, epochReached]⟩
  · have : epochReached (s.cur + 1) = false := by
      rw [Bool.eq_false_iff]; exact fun e => h ((epochReached_iff _).mp e)
    exact .inr ⟨h, if_neg (by rw [this]; decide)⟩

/-- All that a TICK can do. -/
theorem tick_cases (s : State) :
    ∃ b : State, exec .tick s = .next (advance b) ∧
      ((s.led.getLsbD s.cur.toNat = true ∧ b =
          { s with
            busDir := dirRow s.cfg s.cur
            busLvl := lvlRow s.cfg s.cur
            dout := none
            pinTrace := [⟨s.busDir, 0⟩, ⟨0b1111, 0⟩, ⟨dirRow s.cfg s.cur, 0⟩,
              ⟨dirRow s.cfg s.cur, lvlRow s.cfg s.cur⟩] }) ∨
       (s.led.getLsbD s.cur.toNat = false ∧ b =
          { s with
            busDir := 0b1111
            busLvl := 0
            dout := none
            pinTrace := [⟨s.busDir, 0⟩, ⟨0b1111, 0⟩] })) := by
  refine ⟨_, rfl, ?_⟩
  rcases applyRow_cases s.cur (baseline (beginOp s)) with ⟨h, e⟩ | ⟨h, e⟩
  · exact .inl ⟨by simpa using h, by rw [e]; simp [baseline, busWrite, takeSnapshot, busNow, beginOp]⟩
  · exact .inr ⟨by simpa using h, by rw [e]; simp [baseline, busWrite, takeSnapshot, busNow, beginOp]⟩

/-- What a TICK leaves alone (R62): the bitmask, the configuration and what is presented; and it returns nothing. -/
theorem tick_outside {s t : State} (h : exec .tick s = .next t) :
    t.led = s.led ∧ t.cfg = s.cfg ∧ t.inputs = s.inputs ∧ t.choices = s.choices ∧ t.dout = none ∧
    t.cur = s.cur + 1 := by
  obtain ⟨b, hb, hrow⟩ := tick_cases s
  cases hb.symm.trans h
  rcases advance_cases b with ⟨h7, e⟩ | ⟨-, e⟩ <;> rw [e] <;> rcases hrow with ⟨-, rfl⟩ | ⟨-, rfl⟩ <;>
    simp_all

/-- No operation changes the configuration or what is presented (R24, R104). -/
theorem exec_environment {i : Instr} {s t : State} (h : exec i s = .next t) :
    t.cfg = s.cfg ∧ t.inputs = s.inputs ∧ t.choices = s.choices := by
  cases i with
  | tick => have ht := tick_outside h; exact ⟨ht.2.1, ht.2.2.1, ht.2.2.2.1⟩
  | tmrWr sel v =>
    rcases tmrWr_cases sel v s with ⟨-, e⟩ | ⟨-, ⟨-, e⟩ | ⟨c, -, e⟩⟩ <;> cases e.symm.trans h
    obtain ⟨hc, -, -, -, -, -, -, hi, hn⟩ := writeCounter_outside c (truncTo (widthOf s.cfg c) v) (beginOp s)
    exact ⟨hc, hi, hn⟩
  | tmrRd sel =>
    rcases tmrRd_cases sel s with ⟨-, e⟩ | ⟨c, -, e⟩ <;> cases e.symm.trans h
    exact ⟨rfl, rfl, rfl⟩
  | nop => cases h; exact ⟨rfl, rfl, rfl⟩
  | ledSet k => cases h; exact ⟨rfl, rfl, rfl⟩
  | ledClr k => cases h; exact ⟨rfl, rfl, rfl⟩
  | ledWr m => cases h; exact ⟨rfl, rfl, rfl⟩
  | ledRd => cases h; exact ⟨rfl, rfl, rfl⟩
  | wakeClr => cases h; exact ⟨rfl, rfl, rfl⟩
  | reset => cases h; exact ⟨rfl, rfl, rfl⟩

/-! ## Configurations -/

theorem mem_allSlots (k : Slot) : k ∈ allSlots := by
  revert k
  decide

theorem mem_allChecks (k : ConfigCheck) : k ∈ allChecks := by
  cases k <;> decide

/-- A configuration is well formed exactly when it passes every check. -/
theorem configWf_iff (c : Config) : configWf c = true ↔ ∀ k, passes c k = true := by
  simp only [configWf, failedCheck, Option.isNone_iff_eq_none, List.find?_eq_none, Bool.not_eq_true', Bool.not_eq_false]
  exact ⟨fun h k => h k (mem_allChecks k), fun h k _ => h k⟩

theorem npat_le_of_wf {c : Config} (h : configWf c = true) : 1 ≤ c.npat ∧ c.npat ≤ 12 := by
  simpa [passes] using (configWf_iff c).mp h .npatRange

theorem width_le_of_wf {c : Config} (h : configWf c = true) (x : Counter) :
    1 ≤ widthOf c x ∧ widthOf c x ≤ 32 := by
  have hc := (configWf_iff c).mp h
  cases x
  · simpa [passes, widthInRange, widthOf] using hc .widthPd
  · simpa [passes, widthInRange, widthOf] using hc .widthDeb
  · simpa [passes, widthInRange, widthOf] using hc .widthDeb
  · simpa [passes, widthInRange, widthOf] using hc .widthShut
  · simpa [passes, widthInRange, widthOf] using hc .widthWake

/-! ## Light -/

/-- With every level bit 0 no pin drives high, so no LED is lit, whatever the wiring (R29, R63, R73). -/
theorem lit_of_levels_low (c : Config) (dir : PinMask) : lit c dir 0 = [] := by
  have h : ∀ p : Pin, (pinState dir 0 p == .h) = false := by
    intro p
    revert dir p
    decide
  rw [lit, List.filter_eq_nil_iff]
  intro k _
  rw [litSlot, h]
  exact Bool.false_ne_true

/-- What WF_LUT says of one row (R25). -/
theorem row_of_wf {c : Config} (h : configWf c = true) (k : Slot) :
    (wireOf c k).anode ≠ (wireOf c k).cathode ∧
    dirRow c k = pinMask (wireOf c k).anode ||| pinMask (wireOf c k).cathode ∧
    lvlRow c k = pinMask (wireOf c k).anode := by
  have hp := (configWf_iff c).mp h .wiringPins
  have hd := (configWf_iff c).mp h .lutDirRows
  have hl := (configWf_iff c).mp h .lutLvlRows
  simp only [passes, List.all_eq_true, bne_iff_ne, beq_iff_eq] at hp hd hl
  exact ⟨hp k (mem_allSlots k), hd k (mem_allSlots k), hl k (mem_allSlots k)⟩

/-- No two LEDs have the same pair of pins (R29). -/
theorem wire_injective_of_wf {c : Config} (h : configWf c = true) {j k : Slot} (e : wireOf c j = wireOf c k) :
    j = k := by
  have hp := (configWf_iff c).mp h .wiringPairs
  simp only [passes, List.all_eq_true, bne_iff_ne, beq_iff_eq, Bool.or_eq_true] at hp
  rcases hp j (mem_allSlots j) k (mem_allSlots k) with hjk | hne
  · exact hjk
  · exact absurd e hne

/-! ## The step -/

/-- Every way a step of a machine with a well-formed configuration can go. -/
theorem step_of_wf {s : State} (h : configWf s.cfg = true) :
    step s = match (fetch s).word with
      | none => idle (fetch s).rest
      | some w => perform (decodeWord s.cfg.npat w) (fetch s).rest := by
  have hn : failedCheck s.cfg = none := by simpa [configWf] using h
  unfold step
  split
  · next k hk => cases hn.symm.trans hk
  · rfl

theorem step_of_not_wf {s : State} (h : configWf s.cfg = false) :
    ∃ k, failedCheck s.cfg = some k ∧ step s = .refused (.badConfiguration k) := by
  obtain ⟨k, hk⟩ : ∃ k, failedCheck s.cfg = some k := by
    cases hf : failedCheck s.cfg with
    | none => simp [configWf, hf] at h
    | some k => exact ⟨k, rfl⟩
  exact ⟨k, hk, by simp only [step, hk]⟩

/-- Fetching changes nothing but what is still presented and how many choices were drawn. -/
theorem fetch_rest (s : State) : ∃ l n, (fetch s).rest = { s with inputs := l, choices := n } := by
  unfold fetch
  split
  · exact ⟨s.inputs, s.choices, rfl⟩
  · split
    · exact ⟨_, _, rfl⟩
    · split
      · exact ⟨_, _, rfl⟩
      · split
        · exact ⟨_, _, rfl⟩
        · unfold fetchEither
          split
          · exact ⟨_, _, rfl⟩
          · exact ⟨_, _, rfl⟩

/-- A word presented alone is the word fetched. -/
theorem fetch_alone {s : State} {w : InputWord} {later : List Arrival} (h : s.inputs = arrivalOf w :: later)
    (hw : w ≠ .event 0b00) : fetch s = ⟨some w, { s with inputs := later }⟩ := by
  cases w with
  | command cw din => simp [fetch, h, arrivalOf, commandArrival, commandInput]
  | event ev =>
    have hev : ¬ev = 0b00 := fun e => hw (by rw [e])
    simp only [fetch, h, arrivalOf, eventArrival, if_neg hev]

/-- A tick presented alone is performed: the step of a run of ticks (R90). -/
theorem step_tick {s : State} {later : List Arrival} (h : configWf s.cfg = true)
    (hi : s.inputs = tickArrival :: later) : step s = exec .tick { s with inputs := later } := by
  rw [step_of_wf h, fetch_alone (w := .event 0b01) hi (by decide)]
  rfl

/-! ## Runs -/

theorem run_zero (s : State) : Host.Core.run Sys2Proof.core 0 s = .next s := rfl

/-- One more step of a run, in the model's own terms. -/
theorem run_succ {n : Nat} {s t : State} (h : step s = .next t) :
    Host.Core.run Sys2Proof.core (n + 1) s = Host.Core.run Sys2Proof.core n t := by
  have hs : Sys2Proof.core.step s = .next t := h
  simp only [Host.Core.run, hs]

/-- What is still presented does not matter to a TICK. -/
theorem tick_inputs {s t : State} (l : List Arrival) (h : exec .tick s = .next t) :
    exec .tick { s with inputs := l } = .next { t with inputs := l } := by
  have hadv : ∀ b : State, advance { b with inputs := l } = { advance b with inputs := l } := by
    intro b
    by_cases h7 : epochReached (b.cur + 1) = true
    · simp only [advance, if_pos h7]; rfl
    · simp only [advance, if_neg h7]
  have hrow : ∀ b : State, ∀ k, applyRow k { b with inputs := l } = { applyRow k b with inputs := l } := by
    intro b k
    by_cases hk : slotRequested b.led k = true
    · simp only [applyRow, if_pos hk]; rfl
    · simp only [applyRow, if_neg hk]
  cases h
  exact congrArg Host.Outcome.next ((congrArg advance (hrow (baseline (beginOp s)) s.cur)).trans (hadv _))

theorem afterTicks_zero (s : State) : afterTicks 0 s = .next s := rfl

/-- A run of ticks is its first TICK and then the others. -/
theorem afterTicks_succ {n : Nat} {s t : State} (hw : configWf s.cfg = true) (h : exec .tick s = .next t) :
    afterTicks (n + 1) s = afterTicks n t := by
  have hstep : step { s with inputs := List.replicate (n + 1) tickArrival ++ s.inputs } =
      .next { t with inputs := List.replicate n tickArrival ++ s.inputs } :=
    (step_tick (s := { s with inputs := List.replicate (n + 1) tickArrival ++ s.inputs }) hw rfl).trans
      (tick_inputs (s := s) _ h)
  have hi : t.inputs = s.inputs := (tick_outside h).2.2.1
  rw [afterTicks, run_succ hstep, afterTicks, hi]

end Sys2Proof.Machine
end

