-- ==== Sys2Proof/Laws/PerInstr.lean ====
section
/-! SUPPORT. One lemma per operation on its own word: the encoder's word has the bits of the operation's row of the opcode
map (R55). -/

namespace Sys2Proof.Laws.EncodeMatchesRow

/-- The encoder's word has the match bits of the operation's row under the row's mask, or is its event word. -/
def Statement (i : Instr) : Prop :=
  match i with
  | .nop => ∃ cw din, encode i = .command cw din ∧ cw &&& 0xFFFF = 0x0000
  | .ledSet k => ∃ cw din, encode i = .command cw din ∧ cw &&& 0xF8FF = 0x1000 ∧ slotField cw = k
  | .ledClr k => ∃ cw din, encode i = .command cw din ∧ cw &&& 0xF8FF = 0x2000 ∧ slotField cw = k
  | .ledWr m => ∃ cw din, encode i = .command cw din ∧ cw &&& 0xFF00 = 0x3000 ∧ immField cw = m
  | .ledRd => ∃ cw din, encode i = .command cw din ∧ cw &&& 0xFFFF = 0x4000
  | .tmrWr sel v => ∃ cw, encode i = .command cw v ∧ cw &&& 0xF0FF = 0x5000 ∧ selField cw = sel
  | .tmrRd sel => ∃ cw din, encode i = .command cw din ∧ cw &&& 0xF0FF = 0x6000 ∧ selField cw = sel
  | .wakeClr => ∃ cw din, encode i = .command cw din ∧ cw &&& 0xFFFF = 0x7000
  | .tick => encode i = .event 0b01
  | .reset => encode i = .event 0b10

theorem nop : Statement .nop := ⟨_, _, rfl, rfl⟩

theorem ledSet (k : Slot) : Statement (.ledSet k) :=
  ⟨_, _, rfl, by revert k; decide, by revert k; decide⟩

theorem ledClr (k : Slot) : Statement (.ledClr k) :=
  ⟨_, _, rfl, by revert k; decide, by revert k; decide⟩

theorem ledWr (m : LedMask) : Statement (.ledWr m) :=
  ⟨_, _, rfl, (masked_FF00 _ 3).mpr ⟨opField_commandWord 3 0 m, selField_commandWord 3 0 m⟩, immField_commandWord 3 0 m⟩

theorem ledRd : Statement .ledRd := ⟨_, _, rfl, rfl⟩

theorem tmrWr (sel : Selector) (v : Word32) : Statement (.tmrWr sel v) :=
  ⟨_, rfl, (masked_F0FF _ 5).mpr ⟨opField_commandWord 5 sel 0, immField_commandWord 5 sel 0⟩, selField_commandWord 5 sel 0⟩

theorem tmrRd (sel : Selector) : Statement (.tmrRd sel) :=
  ⟨_, _, rfl, (masked_F0FF _ 6).mpr ⟨opField_commandWord 6 sel 0, immField_commandWord 6 sel 0⟩,
    selField_commandWord 6 sel 0⟩

theorem wakeClr : Statement .wakeClr := ⟨_, _, rfl, rfl⟩

theorem tick : Statement .tick := rfl

theorem reset : Statement .reset := rfl

end Sys2Proof.Laws.EncodeMatchesRow
end

