-- ==== Sys2Proof/Tests/Slice0.lean ====
section
/-! SUPPORT. The model's own tests: words and values taken from the spec's patterns and vectors (30_encoding.md,
95_test_vectors.md), an ill-formed term for each check, and for each statement with hypotheses a state and operands that
meet them. -/

namespace Sys2Proof.Tests

open Sys2Proof Sys2Proof.Machine

/-- A view of the next state, `none` where there is none. -/
def seen {α : Type} (f : State → α) : Host.Outcome State Fault Refusal → Option α
  | .next t => some (f t)
  | .fault _ => none
  | .refused _ => none

/-- The refusal, `none` where there is none. -/
def refusal : Host.Outcome State Fault Refusal → Option Refusal
  | .next _ => none
  | .fault _ => none
  | .refused r => some r

/-- The bus, the cursor and the pin trace. -/
def driver (s : State) : Slot × Snapshot × List Snapshot := (s.cur, busNow s, s.pinTrace)

/-- The countdowns and the wake clock. -/
def bank (s : State) : List Word32 × Word32 × Word32 × Word32 × Word32 := (s.pd, s.deb0, s.deb1, s.shut, s.wake)

/-! ## Well-formedness -/

theorem test_reserved_write_selector_is_ill_formed : Instr.wf 3 (.tmrWr 3 7) = false := by decide
theorem test_wake_is_no_write_selector : Instr.wf 3 (.tmrWr 0xF 7) = false := by decide
theorem test_reserved_read_selector_is_ill_formed : Instr.wf 3 (.tmrRd 0xB) = false := by decide
theorem test_last_pattern_selector_is_well_formed : Instr.wf 12 (.tmrWr 0xB 7) = true := by decide
theorem test_ex_is_well_formed : failedCheck Config.ex = none := by decide
theorem test_no_pattern_counter_is_refused :
    failedCheck { Config.ex with npat := 0 } = some .npatRange := by decide
theorem test_thirteen_pattern_counters_are_refused :
    failedCheck { Config.ex with npat := 13 } = some .npatRange := by decide
theorem test_wide_delay_is_refused : failedCheck { Config.ex with wPd := 33 } = some .widthPd := by decide
theorem test_no_debounce_width_is_refused : failedCheck { Config.ex with wDeb := 0 } = some .widthDeb := by decide
theorem test_no_shutdown_width_is_refused : failedCheck { Config.ex with wShut := 0 } = some .widthShut := by decide
theorem test_wide_wake_clock_is_refused : failedCheck { Config.ex with wWake := 33 } = some .widthWake := by decide
theorem test_one_pin_for_both_ends_is_refused :
    failedCheck { Config.ex with wiring := Config.ex.wiring.set 0 ⟨1, 1⟩ } = some .wiringPins := by decide
theorem test_equal_pairs_are_refused :
    failedCheck { Config.ex with wiring := Config.ex.wiring.set 0 ⟨1, 0⟩ } = some .wiringPairs := by decide
theorem test_wrong_direction_row_is_refused :
    failedCheck { Config.ex with lutDir := Config.ex.lutDir.set 0 0b0111 } = some .lutDirRows := by decide
theorem test_level_bit_of_an_input_pin_is_refused :
    failedCheck { Config.ex with lutLvl := Config.ex.lutLvl.set 0 0b0101 } = some .lutLvlRows := by decide

/-! ## Decoding, the words written out from R53 and R55 -/

theorem test_decode_nop : decodeTableWord 16 0b0000000000000000 = some .nop := by decide
theorem test_decode_led_set : decodeTableWord 16 0b0001011000000000 = some (.ledSet 6) := by decide
theorem test_decode_led_clr : decodeTableWord 16 0b0010001100000000 = some (.ledClr 3) := by decide
theorem test_decode_led_wr : decodeTableWord 16 0b0011000010100101 = some (.ledWr 0xA5) := by decide
theorem test_decode_led_rd : decodeTableWord 16 0b0100000000000000 = some .ledRd := by decide
theorem test_decode_tmr_wr : decodeTableWord 48 (0b0101110000000000 + 20 * 2 ^ 16) = some (.tmrWr 0xC 20) := by decide
theorem test_decode_tmr_rd : decodeTableWord 16 0b0110111100000000 = some (.tmrRd 0xF) := by decide
theorem test_decode_wake_clr : decodeTableWord 16 0b0111000000000000 = some .wakeClr := by decide
theorem test_decode_tick : decodeTableWord 8 0b01 = some .tick := by decide
theorem test_decode_reset : decodeTableWord 8 0b10 = some .reset := by decide
theorem test_decode_no_event : decodeEvent 0b00 = .nothing := by decide
theorem test_decode_reserved_event : decodeEvent 0b11 = .rejected (.illegalEvent 0b11) := by decide
theorem test_decode_illegal_words :
    [0x0001, 0x1800, 0x3100, 0x4001, 0x50FF, 0x5C01, 0x8000, 0xFFFF].map (fun w => decodeCommand 3 w 0) =
      [0x0001, 0x1800, 0x3100, 0x4001, 0x50FF, 0x5C01, 0x8000, 0xFFFF].map
        (fun w => .rejected (.illegalCommand w)) := by decide
theorem test_decode_reserved_selectors :
    [0x5300, 0x6B00, 0x5F00].map (fun w => decodeCommand 3 w 0) =
      [.rejected (.reservedSelector 0x3), .rejected (.reservedSelector 0xB), .rejected .wakeNotWritable] := by decide

/-! ## One step of each operation -/

/-- The start state of vector T5. -/
def lateState : State :=
  { State.reset with
    led := 0x80, cur := 7, busDir := 0b0101, busLvl := 0b0001, pd := [5, 0, 1], deb0 := 20, shut := 1, wake := 41 }

/-- The start state of vector E2. -/
def busyState : State :=
  { State.reset with
    led := 0xFF, cur := 5, busDir := 0b1100, busLvl := 0b1000, pd := [4, 4, 4], deb0 := 1, deb1 := 2, shut := 3,
    wake := 77 }

/-- Vector L1. -/
theorem test_nop_keeps_the_block : seen (fun t => (t.led, bank t)) (exec .nop busyState) =
    some (0xFF, bank busyState) := by decide
/-- Vector L2. -/
theorem test_led_set : seen State.led (exec (.ledSet 6) { State.reset with led := 0x01 }) = some 0x41 := by decide
/-- Vector L4. -/
theorem test_led_clr : seen State.led (exec (.ledClr 0) { State.reset with led := 0x41 }) = some 0x40 := by decide
/-- Vector L6. -/
theorem test_led_wr : seen State.led (exec (.ledWr 0xA5) busyState) = some 0xA5 := by decide
/-- Vector L8. -/
theorem test_led_rd : seen (fun t => (t.dout, t.led)) (exec .ledRd { State.reset with led := 0xA5 }) =
    some (some 0x000000A5, 0xA5) := by decide
/-- Vector M2. -/
theorem test_tmr_wr_truncates : seen bank (exec (.tmrWr 0xC 0x114) State.reset) =
    some ([0, 0, 0], 0x14, 0, 0, 0) := by decide
/-- Vector M3. -/
theorem test_tmr_wr_pattern : seen bank (exec (.tmrWr 1 0x12345) State.reset) =
    some ([0, 0x2345, 0], 0, 0, 0, 0) := by decide
/-- Vector M9. -/
theorem test_tmr_rd_wake : seen State.dout (exec (.tmrRd 0xF) { State.reset with wake := 300001 }) =
    some (some 0x000493E1) := by decide
/-- Vector M14. -/
theorem test_tmr_rd_pattern : seen State.dout (exec (.tmrRd 0) { State.reset with pd := [0xFFFF, 0, 0] }) =
    some (some 0x0000FFFF) := by decide
/-- Vector M12. -/
theorem test_wake_clr : seen State.wake (exec .wakeClr { State.reset with wake := 300001 }) = some 0 := by decide
/-- Vector T5. -/
theorem test_tick_epoch : seen (fun t => (driver t, bank t)) (exec .tick lateState) =
    some ((0, ⟨0b0101, 0b0100⟩, [⟨0b0101, 0⟩, ⟨0b1111, 0⟩, ⟨0b0101, 0⟩, ⟨0b0101, 0b0100⟩]),
      ([4, 0, 0], 19, 0, 0, 42)) := by decide
/-- Vector T8. -/
theorem test_tick_unlit :
    seen driver (exec .tick { State.reset with cur := 1, busDir := 0b0011, busLvl := 0b0001 }) =
      some (2, ⟨0b1111, 0⟩, [⟨0b0011, 0⟩, ⟨0b1111, 0⟩]) := by decide
/-- Vector E2. -/
theorem test_reset_driver : seen (fun t => (t.led, driver t)) (exec .reset busyState) =
    some (0, (0, ⟨0, 0⟩, [⟨0, 0⟩])) := by decide
/-- Vector E2. -/
theorem test_reset_bank : seen bank (exec .reset busyState) = some ([0, 0, 0], 0, 0, 0, 0) := by decide

/-- The `Lit` column of the table of `EX` (95_test_vectors.md, section 1). -/
theorem test_rows_of_ex_light_their_led :
    allSlots.map (fun k => lit Config.ex (dirRow Config.ex k) (lvlRow Config.ex k)) =
      [[0], [1], [2], [3], [4], [5], [6], [7]] := by decide
/-- The note of vector T8. -/
theorem test_direction_first_would_flash : lit Config.ex 0b1111 0b0001 = [0, 6] := by decide

/-! ## Steps -/

theorem test_step_runs_the_word : seen driver (step (State.reset.withFetchWord 8 0b01)) =
    some (1, ⟨0b1111, 0⟩, [⟨0, 0⟩, ⟨0b1111, 0⟩]) := by decide
/-- Vector E1. -/
theorem test_step_reserved_event :
    refusal (step (State.reset.withFetchWord 8 0b11)) = some (.illegalEvent 0b11) := by decide
/-- Vector M5. -/
theorem test_step_reserved_selector :
    refusal (step (State.reset.withFetchWord 16 0x5300)) = some (.reservedSelector 3) := by decide
theorem test_step_bad_configuration :
    refusal (step { State.reset with cfg := { Config.ex with npat := 0 } }) =
      some (.badConfiguration .npatRange) := by decide
theorem test_reset_goes_before_a_command :
    (fetch { State.reset with inputs := [⟨0b10, some ⟨0x1600, 0⟩⟩] }).word = some (.event 0b10) := by decide

/-! ## Hypotheses that are met: one theorem per statement that has some -/

/-- A configuration with the most delay counters, of the least width, and other narrow counters. -/
def narrow : Config := { Config.ex with npat := 12, wPd := 1, wDeb := 3, wShut := 1, wWake := 4 }

/-- A legal state whose bus holds the row of slot 7, whose cursor is at slot 0 and whose counters are full. -/
def fullState : State :=
  { State.resetWith narrow with
    led := 0xFF, busDir := 0b0101, busLvl := 0b0100, pd := List.replicate 12 1, deb0 := 7, deb1 := 7,
    shut := 1, wake := 15 }

theorem full_counters_fit : ∀ x ∈ fullState.pd, x.toNat < 2 ^ fullState.cfg.wPd := by
  intro x hx
  rw [List.eq_of_mem_replicate hx]
  decide
theorem full_state_is_legal : Legal fullState :=
  ⟨by decide, ⟨by decide, full_counters_fit, by decide⟩, by decide⟩
/-- The same, one TICK before an epoch, with the bus at reset. -/
def endState : State := { fullState with cur := 7, busDir := 0, busLvl := 0 }

theorem end_state_is_legal : Legal endState :=
  ⟨by decide, ⟨by decide, full_counters_fit, by decide⟩, by decide⟩
theorem full_state_presenting_is_legal : Legal (present tickArrival fullState) :=
  ⟨by decide, ⟨by decide, full_counters_fit, by decide⟩, by decide⟩

theorem meets_DecodeOfEncodeIsTheOperation :
    (12 ≤ 12 ∧ Instr.wf 12 (.tmrWr 0xB 0xFFFFFFFF) = true) ∧ (1 ≤ 12 ∧ Instr.wf 1 (.tmrRd 0xF) = true) := by decide
theorem meets_EveryLegalWordIsItsOperationsWord :
    decodeWord 12 (.command 0x5B00 0xFFFFFFFF) = .op (.tmrWr 0xB 0xFFFFFFFF) ∧
    decodeWord 1 (.command 0x30FF 7) = .op (.ledWr 0xFF) ∧ decodeWord 1 (.event 0b10) = .op .reset := by decide
theorem meets_WordsDecodeByTheOpcodeMap :
    decodeCommand 12 0x5B00 0 = .op (.tmrWr 0xB 0) ∧ decodeCommand 11 0x5B00 0 = .rejected (.reservedSelector 0xB) ∧
    decodeCommand 12 0x6F00 0 = .op (.tmrRd 0xF) ∧ decodeCommand 12 0x1700 0 = .op (.ledSet 7) := by decide
theorem meets_NoWordHasTheBitsOfTwoRows :
    ∃ r ∈ commandRows, r.hits 0x5B00 = true ∧ r.mnemonic = "TMR.WR" := by decide
theorem meets_NpatOnlyMovesTheSelectorBoundary :
    decodeCommand 3 0x5200 0 = .op (.tmrWr 2 0) ∧ decodeCommand 4 0x5300 0 = .op (.tmrWr 3 0) ∧
    decodeCommand 3 0x5300 0 ≠ .op (.tmrWr 3 0) := by decide
theorem meets_StepPerformsTheDecodedOperation :
    configWf (present (arrivalOf (.command 0x5B00 9)) fullState).cfg = true ∧
    (present (arrivalOf (.command 0x5B00 9)) fullState).inputs = arrivalOf (.command 0x5B00 9) :: [] ∧
    decodeWord 12 (.command 0x5B00 9) = .op (.tmrWr 0xB 9) := by decide
theorem meets_StepOnEachEventWord :
    [0b00, 0b01, 0b10, 0b11].all (fun ev =>
      configWf (present ⟨ev, none⟩ fullState).cfg && (present ⟨ev, none⟩ fullState).inputs == [⟨ev, none⟩]) = true := by
  decide
theorem meets_CoincidingTickAndCommandRunInSomeOrder :
    configWf (present ⟨0b01, some ⟨0x1600, 0⟩⟩ fullState).cfg = true ∧
    (present ⟨0b01, some ⟨0x1600, 0⟩⟩ fullState).inputs = [⟨0b01, some ⟨0x1600, 0⟩⟩] ∧
    decodeCommand 12 0x1600 0 = .op (.ledSet 6) := by decide
theorem meets_ResetPrecedesACoincidingCommand :
    configWf (present ⟨0b10, some ⟨0xFFFF, 0⟩⟩ fullState).cfg = true ∧
    (present ⟨0b10, some ⟨0xFFFF, 0⟩⟩ fullState).inputs = [⟨0b10, some ⟨0xFFFF, 0⟩⟩] := by decide
theorem meets_NothingChangesWhileNothingIsPresented : configWf fullState.cfg = true ∧ fullState.inputs = [] := by
  decide
theorem meets_OnlyAConfigurationMeetingTheConstraintsRuns :
    configWf narrow = true ∧ configWf { narrow with npat := 13 } = false := by decide
theorem meets_IllegalCommandWordsAreRefused :
    configWf State.reset.cfg = true ∧ HasIllegalField 0x8000 ∧ HasIllegalField 0x1800 ∧
    NamesReservedSelector State.reset.cfg.npat 0x5B00 ∧ NamesReservedSelector State.reset.cfg.npat 0x6300 ∧
    WritesWake 0x5F00 := by decide
theorem meets_IllegalCommandWordsAreRefused_apart :
    ¬ HasIllegalField 0x5F00 ∧ ¬ NamesReservedSelector 3 0x5F00 ∧ ¬ HasIllegalField 0x5B00 ∧ ¬ WritesWake 0x5B00 := by
  decide
theorem meets_IllegalCommandWordsAreRefused_legal :
    ¬ HasIllegalField 0x6F00 ∧ ¬ NamesReservedSelector 3 0x6F00 ∧ ¬ WritesWake 0x6F00 := by decide
theorem meets_StepsRefuseOnlyForTheListedReasons :
    refusal (step (State.reset.withFetchWord 16 0x5F00)) = some .wakeNotWritable ∧
    refusal (step (State.reset.withFetchWord 16 0x8000)) = some (.illegalCommand 0x8000) := by decide
theorem meets_EveryLegalOperationCompletes :
    (fullState.cfg.npat ≤ 12 ∧ Instr.wf fullState.cfg.npat (.tmrWr 0xB 1) = true) ∧
    Instr.wf fullState.cfg.npat .nop = true ∧ Instr.wf fullState.cfg.npat (.ledSet 7) = true ∧
    Instr.wf fullState.cfg.npat (.ledClr 0) = true ∧ Instr.wf fullState.cfg.npat (.ledWr 0xFF) = true ∧
    Instr.wf fullState.cfg.npat .ledRd = true ∧ Instr.wf fullState.cfg.npat (.tmrRd 0xF) = true ∧
    Instr.wf fullState.cfg.npat .wakeClr = true ∧ Instr.wf fullState.cfg.npat .tick = true ∧
    Instr.wf fullState.cfg.npat .reset = true := by decide
theorem meets_NopChangesNothing : opField 0x0FFF = 0 ∧ (0x0FFF : CommandWord) ≠ 0x0000 := by decide
theorem meets_LedRdReturnsTheMask :
    (opField 0x4001 = 4 ∧ (0x4001 : CommandWord) ≠ 0x4000) ∧
    seen State.led (exec (.ledWr 0xA5) fullState) = some 0xA5 ∧ fullState.led ≠ 0xA5 := by decide
theorem meets_LedBitsAreIndependent :
    seen State.led (exec (.ledSet 6) { fullState with led := 0x01 }) = some 0x41 ∧
    (0x03 : LedMask).getLsbD (0 : Slot).toNat = (0x01 : LedMask).getLsbD (0 : Slot).toNat ∧ (0 : Slot) ≠ 6 ∧
    seen State.led (exec (.ledClr 7) fullState) = some 0x7F ∧ seen State.led (exec .tick fullState) = some 0xFF := by
  decide
theorem meets_TmrWrArmsTheSelectedCountdown :
    fullState.cfg.npat ≤ 12 ∧ fullState.pd.length = fullState.cfg.npat ∧ (0xB : Selector).toNat < fullState.cfg.npat ∧
    (0x0 : Selector).toNat < fullState.cfg.npat := by decide
theorem meets_TmrWrStopsOnWakeAndReservedSelectors :
    State.reset.cfg.npat ≤ 12 ∧ State.reset.cfg.npat ≤ (0x3 : Selector).toNat ∧ (0x3 : Selector).toNat ≤ 0xB ∧
    State.reset.cfg.npat ≤ (0xB : Selector).toNat ∧ (0xB : Selector).toNat ≤ 0xB := by decide
theorem meets_TmrRdReturnsTheSelectedCounter :
    (fullState.cfg.npat ≤ 12 ∧ fullState.pd.length = fullState.cfg.npat ∧
      (0xB : Selector).toNat < fullState.cfg.npat ∧ fullState.pd[(0xB : Selector).toNat]? = some 1) ∧
    (State.reset.pd.length = State.reset.cfg.npat ∧ State.reset.cfg.npat ≤ (0x3 : Selector).toNat) := by decide
theorem meets_TmrRdAfterTmrWr :
    Legal fullState ∧ seen State.pd (exec (.tmrWr 0xB 0) fullState) = some (List.replicate 11 1 ++ [0]) ∧
    tmrRdLegal fullState.cfg.npat 0xF = true ∧ (0xF : Selector) ≠ 0xB := ⟨full_state_is_legal, by decide⟩
theorem meets_WakeClrZeroesTheWakeClock :
    (opField 0x7FFF = 7 ∧ (0x7FFF : CommandWord) ≠ 0x7000) ∧
    (fullState.cfg.npat ≤ 12 ∧ isHostCommand (.tmrWr 0xE 0) = true ∧
      seen State.wake (exec (.tmrWr 0xE 0) fullState) = some 15) ∧
    (configWf fullState.cfg = true ∧ seen State.cur (exec .wakeClr { fullState with cur := 7 }) = some 7) := by decide
theorem meets_WritesAreIdempotentAndReadsRepeat :
    isHostCommand (.tmrWr 0xB 0) = true ∧ (seen State.led (exec (.tmrWr 0xB 0) fullState)).isSome = true ∧
    isHostCommand .ledRd = true ∧ (seen State.led (exec .ledRd fullState)).isSome = true ∧
    seen State.cur (exec .tick { fullState with cur := 7 }) = some 0 := by decide
theorem meets_TickPinTrace :
    fullState.led.getLsbD fullState.cur.toNat = true ∧
    State.reset.led.getLsbD State.reset.cur.toNat = false ∧
    isHostCommand .nop = true := by decide
theorem meets_TickAdvancesTheCursorAndCountsTheEpoch :
    fullState.cfg.wWake ≤ 32 ∧ fullState.cur ≠ 7 ∧ { fullState with cur := 7 }.cur = 7 := by decide
theorem meets_TickReadsOnlyTheCursorsBit :
    seen State.led (exec .tick fullState) = some 0xFF ∧
    (0x01 : LedMask).getLsbD fullState.cur.toNat = fullState.led.getLsbD fullState.cur.toNat ∧
    (0xFE : LedMask).getLsbD fullState.cur.toNat ≠ fullState.led.getLsbD fullState.cur.toNat := by decide
theorem meets_EachRowLightsExactlyItsLed : configWf narrow = true := by decide
theorem meets_NoWrongLedDuringATick :
    configWf fullState.cfg = true ∧ seen (fun t => t.pinTrace.length) (exec .tick fullState) = some 4 := by decide
theorem meets_LegalStatesAreKept :
    Legal (present tickArrival fullState) ∧ seen State.cur (step (present tickArrival fullState)) = some 1 :=
  ⟨full_state_presenting_is_legal, by decide⟩
theorem meets_ResetStatesAreLegal : configWf narrow = true := by decide
theorem meets_AtMostOneLedIsLitInEveryRun :
    Legal (present tickArrival fullState) ∧
    AtMostOneLit (present tickArrival fullState).cfg (present tickArrival fullState).pinTrace ∧
    seen (fun t => litBy t.cfg (busNow t)) (Host.Core.run Sys2Proof.core 1 (present tickArrival fullState)) =
      some [0] := ⟨full_state_presenting_is_legal, by decide⟩
theorem meets_OnlyTheOwnersWriteEachElement :
    fullState.cfg.npat ≤ 12 ∧ seen State.pd (exec (.tmrWr 0 0) fullState) = some (0 :: List.replicate 11 1) ∧
    seen State.wake (exec .wakeClr fullState) = some 0 ∧ seen State.cur (exec .tick fullState) = some 1 ∧
    seen State.dout (exec (.tmrRd 0xE) fullState) = some (some 1) := by decide
theorem meets_TheHostCannotSeeTheDriver :
    isHostCommand (.tmrRd 0xF) = true ∧
    HostEqual fullState
      { fullState with cur := 3, busDir := 0, busLvl := 0, cfg.lutDir := #v[0, 0, 0, 0, 0, 0, 0, 0] } :=
  ⟨rfl, ⟨rfl, rfl, rfl, rfl, rfl⟩, rfl, ⟨rfl, rfl, rfl, rfl, rfl⟩, rfl⟩
theorem meets_EightTicksServiceEverySlotOnce : configWf fullState.cfg = true := by decide
theorem meets_EpochArithmeticFromReset : configWf narrow = true := by decide
theorem meets_WakeClockCountsTheEpochs :
    Legal endState ∧ seen State.wake (exec .tick endState) = some 0 ∧ endState.wake = 15 := ⟨end_state_is_legal, by decide⟩
theorem meets_ArmedCountdownExpiresAfterItsEpochs :
    Legal fullState ∧ (seen State.pd (exec (.tmrWr 0xB 3) fullState)).isSome = true ∧
    selected fullState.cfg.npat 0xB = some (.pd 11) ∧ 0 < (3 : Word32).toNat % 2 ^ widthOf fullState.cfg (.pd 11) :=
  ⟨full_state_is_legal, by decide⟩
theorem meets_LedSetShowsWithinEightTicks :
    configWf State.reset.cfg = true ∧ seen State.led (exec (.ledSet 7) State.reset) = some 0x80 ∧ 1 ≤ 8 ∧
    8 = ((7 : Slot) - State.reset.cur).toNat + 1 := by decide
theorem meets_LedClrShowsAtTheNextTick :
    configWf fullState.cfg = true ∧ seen State.led (exec (.ledClr 7) fullState) = some 0x7F ∧ 1 ≤ 1 := by decide
theorem meets_AllOffSettlesAtTheNextTick :
    configWf fullState.cfg = true ∧ seen State.led (exec (.ledWr 0) fullState) = some 0 ∧ 1 ≤ 1 := by decide
theorem meets_ReadThenWriteBackLosesAnEpoch :
    Legal endState ∧ endState.cur = 7 ∧ (0xB : Selector) ≠ 0xF ∧
    seen State.dout (exec (.tmrRd 0xB) endState) = some (some 1) ∧
    selected endState.cfg.npat 0xB = some (.pd 11) := ⟨end_state_is_legal, by decide⟩

end Sys2Proof.Tests
end

/-! 00_scope.md: which configurations a step refuses (R7, R25, R29). -/

namespace Sys2Proof.Machine

/-! ## What passing the checks says -/

/-- The four widths are those of the counters, `W_DEB` being that of both debounce countdowns (R6). -/
theorem forall_width_iff (c : Config) (P : Nat → Prop) :
    (∀ w ∈ [c.wPd, c.wDeb, c.wShut, c.wWake], P w) ↔ ∀ x, P (widthOf c x) := by
  constructor
  · intro h x
    cases x <;> exact h _ (by simp [widthOf])
  · intro h
    simpa [widthOf] using And.intro (h (.pd 0)) ⟨h .deb0, h .shut, h .wake⟩

/-- The constraints of R7, R25 and R29 on a configuration, as propositions, are enough to pass every check. -/
theorem configWf_of_constraints {c : Config} (hnpat : 1 ≤ c.npat ∧ c.npat ≤ 12)
    (hwidth : ∀ x, 1 ≤ widthOf c x ∧ widthOf c x ≤ 32)
    (hpins : ∀ k, (wireOf c k).anode ≠ (wireOf c k).cathode)
    (hpairs : ∀ j k, wireOf c j = wireOf c k → j = k)
    (hdir : ∀ k, dirRow c k = pinMask (wireOf c k).anode ||| pinMask (wireOf c k).cathode)
    (hlvl : ∀ k, lvlRow c k = pinMask (wireOf c k).anode) : configWf c = true := by
  rw [configWf_iff]
  intro check
  cases check with
  | npatRange => simpa [passes] using hnpat
  | widthPd => simpa [passes, widthInRange, widthOf] using hwidth (.pd 0)
  | widthDeb => simpa [passes, widthInRange, widthOf] using hwidth .deb0
  | widthShut => simpa [passes, widthInRange, widthOf] using hwidth .shut
  | widthWake => simpa [passes, widthInRange, widthOf] using hwidth .wake
  | wiringPins => simpa [passes, mem_allSlots] using hpins
  | wiringPairs =>
    simp only [passes, List.all_eq_true, Bool.or_eq_true, beq_iff_eq, bne_iff_ne]
    exact fun j _ k _ => or_iff_not_imp_right.mpr fun e => hpairs j k (not_not.mp e)
  | lutDirRows => simpa [passes, mem_allSlots] using hdir
  | lutLvlRows => simpa [passes, mem_allSlots] using hlvl

/-- What a configuration that may run is (R7, with the wiring of R29 and the rows of R25). -/
theorem configWf_iff_constraints (c : Config) :
    configWf c = true ↔
      (1 ≤ c.npat ∧ c.npat ≤ 12) ∧
      (∀ w ∈ [c.wPd, c.wDeb, c.wShut, c.wWake], 1 ≤ w ∧ w ≤ 32) ∧
      (∀ k, (wireOf c k).anode ≠ (wireOf c k).cathode) ∧
      (∀ j k, wireOf c j = wireOf c k → j = k) ∧
      (∀ k, dirRow c k = pinMask (wireOf c k).anode ||| pinMask (wireOf c k).cathode ∧
        lvlRow c k = pinMask (wireOf c k).anode) := by
  rw [forall_width_iff c fun w => 1 ≤ w ∧ w ≤ 32]
  constructor
  · exact fun h => ⟨npat_le_of_wf h, width_le_of_wf h, fun k => (row_of_wf h k).1,
      fun _ _ => wire_injective_of_wf h, fun k => (row_of_wf h k).2⟩
  · rintro ⟨hnpat, hwidth, hpins, hpairs, hrows⟩
    exact configWf_of_constraints hnpat hwidth hpins hpairs (fun k => (hrows k).1) (fun k => (hrows k).2)

/-! ## Who refuses for what -/

/-- The only refusals of an operation are the selectors TMR.WR and TMR.RD may not name (R82, R83). -/
theorem exec_refused_cases {i : Instr} {s : State} {r : Refusal} (h : exec i s = .refused r) :
    ((∃ v, i = .tmrWr 0xF v) ∧ r = .wakeNotWritable) ∨
    ∃ sel, ((∃ v, i = .tmrWr sel v) ∨ i = .tmrRd sel) ∧ selected s.cfg.npat sel = none ∧
      r = .reservedSelector sel := by
  cases i with
  | tmrWr sel v =>
    rcases tmrWr_cases sel v s with ⟨hsel, e⟩ | ⟨-, ⟨hnone, e⟩ | ⟨c, -, e⟩⟩ <;> cases e.symm.trans h
    · exact .inl ⟨⟨v, by rw [hsel]⟩, rfl⟩
    · exact .inr ⟨sel, .inl ⟨v, rfl⟩, hnone, rfl⟩
  | tmrRd sel =>
    rcases tmrRd_cases sel s with ⟨hnone, e⟩ | ⟨c, -, e⟩ <;> cases e.symm.trans h
    exact .inr ⟨sel, .inr rfl, hnone, rfl⟩
  | tick =>
    obtain ⟨b, e, -⟩ := tick_cases s
    cases e.symm.trans h
  | nop => cases h
  | ledSet k => cases h
  | ledClr k => cases h
  | ledWr m => cases h
  | ledRd => cases h
  | wakeClr => cases h
  | reset => cases h

theorem perform_ne_badConfiguration (d : Decoded) (s : State) (k : ConfigCheck) :
    perform d s ≠ .refused (.badConfiguration k) := by
  intro h
  cases d with
  | op i => rcases exec_refused_cases h with ⟨-, e⟩ | ⟨_, -, -, e⟩ <;> cases e
  | nothing => cases h
  | rejected r => cases r <;> cases h

/-- A step refuses for the configuration exactly when the configuration fails a check, whatever is presented. -/
theorem step_badConfiguration_iff (s : State) :
    (∃ k, step s = .refused (.badConfiguration k)) ↔ configWf s.cfg = false := by
  constructor
  · rintro ⟨k, hk⟩
    rw [← Bool.not_eq_true]
    intro hwf
    rw [step_of_wf hwf] at hk
    split at hk
    · cases hk
    · exact perform_ne_badConfiguration _ _ k hk
  · intro hwf
    obtain ⟨k, -, hk⟩ := step_of_not_wf hwf
    exact ⟨k, hk⟩

/-- Settles O12: a step refuses for the configuration exactly when a check fails, and the checks together are the
constraints. -/
theorem onlyAConfigurationMeetingTheConstraintsRuns :
    Obligations.OnlyAConfigurationMeetingTheConstraintsRuns := by
  intro s
  rw [step_badConfiguration_iff, ← Bool.not_eq_true]
  exact not_congr (configWf_iff_constraints s.cfg)

end Sys2Proof.Machine

/-! 10_state.md: what an operation makes of the LED bitmask, bit by bit (R22, R23). -/

namespace Sys2Proof.Machine

/-! ## The bitmask after an operation -/

/-- The bitmask an operation leaves, from the bitmask alone: no other part of the state decides it. -/
def ledAfter : Instr → LedMask → LedMask
  | .ledSet k, m => m ||| slotMask k
  | .ledClr k, m => m &&& ~~~slotMask k
  | .ledWr v, _ => v
  | .reset, _ => 0
  | .nop, m | .ledRd, m | .tmrWr _ _, m | .tmrRd _, m | .wakeClr, m | .tick, m => m

theorem exec_led {i : Instr} {s t : State} (h : exec i s = .next t) : t.led = ledAfter i s.led := by
  cases i with
  | tick => exact (tick_outside h).1
  | tmrWr sel v =>
    rcases tmrWr_cases sel v s with ⟨-, e⟩ | ⟨-, ⟨-, e⟩ | ⟨c, -, e⟩⟩ <;> cases e.symm.trans h
    obtain ⟨-, hled, -⟩ := writeCounter_outside c (truncTo (widthOf s.cfg c) v) (beginOp s)
    exact hled
  | tmrRd sel =>
    rcases tmrRd_cases sel s with ⟨-, e⟩ | ⟨c, -, e⟩ <;> cases e.symm.trans h
    rfl
  | nop | ledSet _ | ledClr _ | ledWr _ | ledRd | wakeClr | reset => cases h; rfl

/-- Each bit an operation leaves comes from that same bit, or from no bit at all. -/
theorem ledAfter_bit_congr (i : Instr) {m m' : LedMask} {j : Slot}
    (h : m.getLsbD j.toNat = m'.getLsbD j.toNat) :
    (ledAfter i m).getLsbD j.toNat = (ledAfter i m').getLsbD j.toNat := by
  cases i with
  | ledSet k => simp only [ledAfter, setLed_bit, h]
  | ledClr k => simp only [ledAfter, clrLed_bit, h]
  | ledWr v => rfl
  | reset => rfl
  | nop | ledRd | tmrWr _ _ | tmrRd _ | wakeClr | tick => exact h

/-! ## Completion -/

/-- Whether an operation completes is decided by its operands and the configuration (R82, R83, R86). -/
theorem exec_completes_of_cfg_eq {i : Instr} {s s' t : State} (h : exec i s = .next t) (hcfg : s'.cfg = s.cfg) :
    ∃ u, exec i s' = .next u := by
  cases i with
  | tmrWr sel v =>
    rcases tmrWr_cases sel v s with ⟨-, e⟩ | ⟨hne, ⟨-, e⟩ | ⟨c, hc, -⟩⟩
    · cases e.symm.trans h
    · cases e.symm.trans h
    · rcases tmrWr_cases sel v s' with ⟨hF, -⟩ | ⟨-, ⟨hnone, -⟩ | ⟨_, -, e'⟩⟩
      · exact absurd hF hne
      · rw [hcfg, hc] at hnone
        cases hnone
      · exact ⟨_, e'⟩
  | tmrRd sel =>
    rcases tmrRd_cases sel s with ⟨-, e⟩ | ⟨c, hc, -⟩
    · cases e.symm.trans h
    · rcases tmrRd_cases sel s' with ⟨hnone, -⟩ | ⟨_, -, e'⟩
      · rw [hcfg, hc] at hnone
        cases hnone
      · exact ⟨_, e'⟩
  | nop | ledSet _ | ledClr _ | ledWr _ | ledRd | wakeClr | tick | reset => exact ⟨_, rfl⟩

/-! ## Independence of the bits -/

/-- Settles O21: the bitmask after an operation is a function of the bitmask before it, and works bit by bit. -/
theorem ledBitsAreIndependent : Obligations.LedBitsAreIndependent := by
  refine ⟨fun i s t m j h hbit => ?_, fun s t k j h hjk => ?_, fun s t h => (tick_outside h).1⟩
  · obtain ⟨u, hu⟩ := exec_completes_of_cfg_eq (s' := { s with led := m }) h rfl
    refine ⟨u, hu, ?_⟩
    rw [exec_led hu, exec_led h]
    exact ledAfter_bit_congr i hbit
  · rcases h with h | h
    · rw [exec_led h, ledAfter, setLed_bit, if_neg hjk]
    · rw [exec_led h, ledAfter, clrLed_bit, if_neg hjk]

end Sys2Proof.Machine

/-! 30_encoding.md: the opcode map read pattern by pattern (R53, R55). -/

namespace Sys2Proof

/-! ## The extra validity of the timer commands -/

theorem tmrWrLegal_iff (npat : Nat) (s : Selector) :
    tmrWrLegal npat s = true ↔ s.toNat < npat ∨ s ∈ [0xC#4, 0xD#4, 0xE#4] := by
  simp [tmrWrLegal, or_assoc]

theorem tmrRdLegal_iff (npat : Nat) (s : Selector) :
    tmrRdLegal npat s = true ↔ s.toNat < npat ∨ s ∈ [0xC#4, 0xD#4, 0xE#4, 0xF#4] := by
  simp [tmrRdLegal, or_assoc]

/-! ## The decoder by masks -/

/-- The decoder in terms of R55's masks and match bits, where `decodeCommand_chain` says it in terms of fields. -/
theorem decodeCommand_masks (npat : Nat) (cw : CommandWord) (din : Word32) :
    decodeCommand npat cw din =
      if cw &&& 0xFFFF = 0x0000 then .op .nop
      else if cw &&& 0xF8FF = 0x1000 then .op (.ledSet (slotField cw))
      else if cw &&& 0xF8FF = 0x2000 then .op (.ledClr (slotField cw))
      else if cw &&& 0xFF00 = 0x3000 then .op (.ledWr (immField cw))
      else if cw &&& 0xFFFF = 0x4000 then .op .ledRd
      else if cw &&& 0xF0FF = 0x5000 ∧ tmrWrLegal npat (selField cw) = true then .op (.tmrWr (selField cw) din)
      else if cw &&& 0xF0FF = 0x6000 ∧ tmrRdLegal npat (selField cw) = true then .op (.tmrRd (selField cw))
      else if cw &&& 0xFFFF = 0x7000 then .op .wakeClr
      else .rejected (rejectCommand cw) := by
  simp only [decodeCommand, commandRows, decodeIn, CommandRow.accepts, CommandRow.hits, Bool.and_eq_true, beq_iff_eq,
    Instr.wf, and_true]

/-- Settles O3, by a split on the rows of the opcode map: decoder and statement have the same conditions, and what no row
takes is the reject case. The bound on `NPAT` is not needed. -/
theorem wordsDecodeByTheOpcodeMap : Obligations.WordsDecodeByTheOpcodeMap := by
  refine ⟨fun npat cw din _ => ?_, rfl, rfl, rfl, rfl⟩
  simp only [decodeCommand_masks, tmrWrLegal_iff, tmrRdLegal_iff, selField, slotField, immField]
  split_ifs
  case neg => exact ⟨rejectCommand cw, rfl⟩
  all_goals rfl

end Sys2Proof

/-! 40_tick.md: the pin trace of a TICK (R63, R65), its cursor and its epoch bookkeeping (R66 to R71). -/

namespace Sys2Proof.Machine

/-! ## The bus -/

/-- Step 4 of a TICK writes no bus register and takes no snapshot. -/
theorem advance_bus (s : State) :
    (advance s).busDir = s.busDir ∧ (advance s).busLvl = s.busLvl ∧ (advance s).pinTrace = s.pinTrace := by
  rcases advance_cases s with ⟨-, e⟩ | ⟨-, e⟩ <;> rw [e] <;> exact ⟨rfl, rfl, rfl⟩

/-- What a TICK does at the pins, by the serviced slot's LED bit. -/
theorem tick_bus {s t : State} (h : exec .tick s = .next t) :
    (s.led.getLsbD s.cur.toNat = true ∧
      t.pinTrace = [⟨s.busDir, 0⟩, ⟨0b1111, 0⟩, ⟨dirRow s.cfg s.cur, 0⟩, ⟨dirRow s.cfg s.cur, lvlRow s.cfg s.cur⟩] ∧
      t.busDir = dirRow s.cfg s.cur ∧ t.busLvl = lvlRow s.cfg s.cur) ∨
    (s.led.getLsbD s.cur.toNat = false ∧
      t.pinTrace = [⟨s.busDir, 0⟩, ⟨0b1111, 0⟩] ∧ t.busDir = 0b1111 ∧ t.busLvl = 0) := by
  obtain ⟨b, hb, hrow⟩ := tick_cases s
  cases hb.symm.trans h
  obtain ⟨hdir, hlvl, htrace⟩ := advance_bus b
  rw [hdir, hlvl, htrace]
  rcases hrow with ⟨hbit, rfl⟩ | ⟨hbit, rfl⟩
  · exact .inl ⟨hbit, rfl, rfl, rfl⟩
  · exact .inr ⟨hbit, rfl, rfl, rfl⟩

/-- No host command moves the cursor or the bus (R34). -/
theorem hostCommand_driver {i : Instr} {s t : State} (hi : isHostCommand i = true) (h : exec i s = .next t) :
    SameDriver s t := by
  cases i with
  | tmrWr sel v =>
    rcases tmrWr_cases sel v s with ⟨-, e⟩ | ⟨-, ⟨-, e⟩ | ⟨c, -, e⟩⟩ <;> cases e.symm.trans h
    obtain ⟨-, -, hcur, hdir, hlvl, -⟩ := writeCounter_outside c (truncTo (widthOf s.cfg c) v) (beginOp s)
    exact ⟨hcur, hdir, hlvl⟩
  | tmrRd sel =>
    rcases tmrRd_cases sel s with ⟨-, e⟩ | ⟨c, -, e⟩ <;> cases e.symm.trans h
    exact ⟨rfl, rfl, rfl⟩
  | nop | ledSet _ | ledClr _ | ledWr _ | ledRd | wakeClr => cases h; exact ⟨rfl, rfl, rfl⟩
  | tick | reset => cases hi

/-- Settles O28: the two branches of a TICK differ in the serviced slot's LED bit, and the bus is the TICK's alone. -/
theorem tickPinTrace : Obligations.TickPinTrace := by
  intro s
  obtain ⟨b, hb, -⟩ := tick_cases s
  refine ⟨advance b, hb, fun hon => ?_, fun hoff => ?_, fun i u hi hu => ?_⟩
  · rcases tick_bus hb with ⟨-, hpins⟩ | ⟨hoff, -⟩
    · exact hpins
    · exact absurd (hon.symm.trans hoff) (by decide)
  · rcases tick_bus hb with ⟨hon, -⟩ | ⟨-, hpins⟩
    · exact absurd (hon.symm.trans hoff) (by decide)
    · exact hpins
  · obtain ⟨-, hdir, hlvl⟩ := hostCommand_driver hi hu
    simp only [busNow, hdir, hlvl]

/-! ## The timer bank -/

/-- What a TICK does to the timer bank: the epoch bookkeeping from slot 7, nothing from any other slot. -/
theorem tick_bank {s t : State} (h : exec .tick s = .next t) :
    (s.cur = 7 ∧ t.pd = s.pd.map satdec ∧ t.deb0 = satdec s.deb0 ∧ t.deb1 = satdec s.deb1 ∧
      t.shut = satdec s.shut ∧ t.wake = incTo s.cfg.wWake s.wake) ∨
    (s.cur ≠ 7 ∧ SameBank s t) := by
  obtain ⟨b, hb, hrow⟩ := tick_cases s
  cases hb.symm.trans h
  have hkept : b.cur = s.cur ∧ b.cfg = s.cfg ∧ SameBank s b := by
    rcases hrow with ⟨-, rfl⟩ | ⟨-, rfl⟩ <;> exact ⟨rfl, rfl, rfl, rfl, rfl, rfl, rfl⟩
  obtain ⟨hcur, hcfg, hpd, hdeb0, hdeb1, hshut, hwake⟩ := hkept
  rw [← hcur, ← hcfg, ← hpd, ← hdeb0, ← hdeb1, ← hshut, ← hwake]
  rcases advance_cases b with ⟨h7, e⟩ | ⟨hne, e⟩ <;> rw [e]
  · exact .inl ⟨h7, rfl, rfl, rfl, rfl, rfl⟩
  · exact .inr ⟨hne, hpd, hdeb0, hdeb1, hshut, hwake⟩

theorem map_satdec_toNat (l : List Word32) : (l.map satdec).map BitVec.toNat = l.map fun x => x.toNat - 1 := by
  rw [List.map_map]
  exact List.map_congr_left fun x _ => satdec_toNat x

/-- Settles O29: the epoch bookkeeping is exactly the branch from slot 7, and each counter's step is read as a number. -/
theorem tickAdvancesTheCursorAndCountsTheEpoch : Obligations.TickAdvancesTheCursorAndCountsTheEpoch := by
  intro s hw
  obtain ⟨b, hb, -⟩ := tick_cases s
  obtain ⟨hled, hcfg, hinputs, hchoices, hdout, hcur⟩ := tick_outside hb
  refine ⟨advance b, hb, ?_, fun h7 => ?_, fun hne => ?_, hled, ⟨hcfg, hinputs, hchoices⟩, hdout⟩
  · rw [hcur, BitVec.toNat_add]
    rfl
  · rcases tick_bank hb with ⟨-, hpd, hdeb0, hdeb1, hshut, hwake⟩ | ⟨hne, -⟩
    · rw [hpd, hdeb0, hdeb1, hshut, hwake]
      exact ⟨map_satdec_toNat s.pd, satdec_toNat _, satdec_toNat _, satdec_toNat _, incTo_toNat hw _⟩
    · exact absurd h7 hne
  · rcases tick_bank hb with ⟨h7, -⟩ | ⟨-, hbank⟩
    · exact absurd h7 hne
    · exact hbank

end Sys2Proof.Machine

/-! 41_led_port.md: the operations of one fixed word (R55), NOP (R77) and LED.RD (R81). -/

namespace Sys2Proof

/-! ## The operations of one fixed word -/

/-- Only a timer command's word is refused under another reason than the word itself. -/
theorem rejectCommand_of_not_timer {cw : CommandWord} (h5 : opField cw ≠ 5) (h6 : opField cw ≠ 6) :
    rejectCommand cw = .illegalCommand cw := by
  simp only [rejectCommand, if_neg h5, if_neg h6, ite_self]

/-- NOP, LED.RD and WAKE.CLR have no operand: their `OP` admits the one word with `SEL = 0` and `IMM = 0` (R55). -/
theorem decodeCommand_of_ne_fixedWord {op : BitVec 4} (hfixed : op = 0 ∨ op = 4 ∨ op = 7) (npat : Nat)
    {cw : CommandWord} (din : Word32) (hop : opField cw = op) (hne : cw ≠ commandWord op 0 0) :
    decodeCommand npat cw din = .rejected (.illegalCommand cw) := by
  have hword (a : BitVec 4) : cw ≠ commandWord a 0 0 := by
    rintro rfl
    rw [opField_commandWord] at hop
    exact hne (by rw [hop])
  have h0 : cw ≠ 0x0000 := hword 0
  have h4 : cw ≠ 0x4000 := hword 4
  have h7 : cw ≠ 0x7000 := hword 7
  have hother : opField cw ≠ 1 ∧ opField cw ≠ 2 ∧ opField cw ≠ 3 ∧ opField cw ≠ 5 ∧ opField cw ≠ 6 := by
    rw [hop]
    rcases hfixed with rfl | rfl | rfl <;> decide
  obtain ⟨h1, h2, h3, h5, h6⟩ := hother
  simp only [decodeCommand_chain, h0, h1, h2, h3, h4, h5, h6, h7, false_and, if_false,
    rejectCommand_of_not_timer h5 h6]

end Sys2Proof

namespace Sys2Proof.Machine

/-! ## NOP -/

theorem beginOp_sameBlock (s : State) : SameBlock s (beginOp s) :=
  ⟨rfl, ⟨rfl, rfl, rfl⟩, ⟨rfl, rfl, rfl, rfl, rfl⟩, rfl, rfl, rfl⟩

/-- Settles O16: NOP only begins an operation, and its word is the one word with `OP = 0`. -/
theorem nopChangesNothing : Obligations.NopChangesNothing :=
  ⟨fun s => ⟨beginOp s, rfl, beginOp_sameBlock s, rfl, rfl⟩, fun _ _ => rfl,
    fun npat _ din hop hne => decodeCommand_of_ne_fixedWord (.inl rfl) npat din hop hne⟩

/-! ## LED.RD -/

/-- Delivering a value on `DOUT` is no side effect (R81, R84). -/
theorem deliver_sameBlock (v : Word32) (s : State) : SameBlock s (deliver v (beginOp s)) := beginOp_sameBlock s

theorem exec_ledRd (s : State) : exec .ledRd s = .next (deliver (zextLed s.led) (beginOp s)) := rfl

/-- The writers of the bitmask (R34, R45). -/
theorem eq_ledWriter_of_ledAfter_ne {i : Instr} {m : LedMask} (h : ledAfter i m ≠ m) :
    (∃ k, i = .ledSet k) ∨ (∃ k, i = .ledClr k) ∨ (∃ v, i = .ledWr v) ∨ i = .reset := by
  cases i with
  | ledSet k => exact .inl ⟨k, rfl⟩
  | ledClr k => exact .inr (.inl ⟨k, rfl⟩)
  | ledWr v => exact .inr (.inr (.inl ⟨v, rfl⟩))
  | reset => exact .inr (.inr (.inr rfl))
  | nop | ledRd | tmrWr _ _ | tmrRd _ | wakeClr | tick => exact absurd rfl h

/-- Settles O20: the value read is the bitmask as it stands, and the bitmask changes only as `ledAfter` says. -/
theorem ledRdReturnsTheMask : Obligations.LedRdReturnsTheMask := by
  refine ⟨fun s => ?_, fun _ _ => rfl, fun npat cw din hop hne => ?_, fun i s t h hne => ?_, fun s t h => ?_⟩
  · exact ⟨_, exec_ledRd s, deliver_sameBlock _ s, zextLed s.led, ⟨rfl, rfl⟩, zextLed_toNat s.led⟩
  · exact decodeCommand_of_ne_fixedWord (.inr (.inl rfl)) npat din hop hne
  · rw [exec_led h] at hne
    exact eq_ledWriter_of_ledAfter_ne hne
  · have hled : t.led = 0xA5 := exec_led h
    refine ⟨_, exec_ledRd t, ?_⟩
    rw [deliver_dout, hled]
    rfl

end Sys2Proof.Machine

/-! 42_timer_port.md: the timer-bank commands, and WAKE.CLR as the host's one write to the wake clock (R82 to R85). -/

namespace Sys2Proof.Machine

/-! ## The wake clock and the selectors -/

/-- Only selector 0xF names the wake clock (R39, R82). -/
theorem eq_of_selected_wake {npat : Nat} {sel : Selector} (h : selected npat sel = some .wake) : sel = 0xF := by
  rcases selected_cases npat sel with ⟨-, e⟩ | ⟨-, ⟨-, e⟩ | ⟨-, e⟩ | ⟨-, e⟩ | ⟨hF, e⟩ | ⟨-, e⟩⟩ <;>
    cases e.symm.trans h
  exact hF

theorem writeCounter_wake_of_ne {c : Counter} (hc : c ≠ .wake) (v : Word32) (s : State) :
    (writeCounter c v s).wake = s.wake :=
  readCounter_writeCounter_other hc.symm v s

/-- TMR.WR refuses the one selector that names the wake clock, so no write through a selector reaches it (R83). -/
theorem tmrWr_wake {sel : Selector} {v : Word32} {s t : State} (h : exec (.tmrWr sel v) s = .next t) :
    t.wake = s.wake := by
  rcases tmrWr_cases sel v s with ⟨-, e⟩ | ⟨hne, ⟨-, e⟩ | ⟨c, hsel, e⟩⟩ <;> cases e.symm.trans h
  have hc : c ≠ .wake := by
    rintro rfl
    exact hne (eq_of_selected_wake hsel)
  exact writeCounter_wake_of_ne hc _ (beginOp s)

/-- The wake clock's writers are WAKE.CLR and the two events (R34, R45). -/
theorem hostCommand_wake {i : Instr} {s t : State} (hi : isHostCommand i = true) (hne : i ≠ .wakeClr)
    (h : exec i s = .next t) : t.wake = s.wake := by
  cases i with
  | tmrWr sel v => exact tmrWr_wake h
  | tmrRd sel =>
    rcases tmrRd_cases sel s with ⟨-, e⟩ | ⟨c, -, e⟩ <;> cases e.symm.trans h
    rfl
  | wakeClr => exact absurd rfl hne
  | nop | ledSet _ | ledClr _ | ledWr _ | ledRd => cases h; rfl
  | tick | reset => cases hi

/-! ## WAKE.CLR -/

theorem exec_wakeClr (s : State) : exec .wakeClr s = .next (writeCounter .wake 0 (beginOp s)) := rfl

/-- The first epoch after zero counts to one, whatever the width (R71). -/
theorem incTo_zero {w : Nat} (hw : 1 ≤ w) : incTo w 0 = 1 :=
  truncTo_of_fits (Nat.one_lt_two_pow (Nat.one_le_iff_ne_zero.mp hw))

/-- A TICK at the epoch makes a cleared wake clock 1 (R71, R85). -/
theorem tick_wake_of_cleared {s : State} (hwf : configWf s.cfg = true) (hcur : s.cur = 7) (hwake : s.wake = 0) :
    ∃ u, exec .tick s = .next u ∧ u.wake = 1 := by
  obtain ⟨b, hb, -⟩ := tick_cases s
  refine ⟨advance b, hb, ?_⟩
  rcases tick_bank hb with ⟨-, -, -, -, -, hcount⟩ | ⟨hne, -⟩
  · rw [hcount, hwake]
    exact incTo_zero (width_le_of_wf hwf .wake).1
  · exact absurd hcur hne

/-- Settles O26: WAKE.CLR is a write to the wake clock alone, by its one word; TMR.WR refuses the selector that would be
the host's other way there. The bound on `NPAT` is not needed. -/
theorem wakeClrZeroesTheWakeClock : Obligations.WakeClrZeroesTheWakeClock := by
  refine ⟨fun s => ?_, fun _ _ => rfl, fun npat cw din hop hne => ?_, fun i s t _ hi hne h => ?_,
    fun s t hwf hcur h => ?_⟩
  · exact ⟨_, exec_wakeClr s, rfl, rfl, rfl, rfl, rfl, rfl, ⟨rfl, rfl, rfl⟩, ⟨rfl, rfl, rfl⟩, rfl, rfl⟩
  · exact decodeCommand_of_ne_fixedWord (.inr (.inr rfl)) npat din hop hne
  · exact hostCommand_wake hi hne h
  · cases (exec_wakeClr s).symm.trans h
    exact tick_wake_of_cleared hwf hcur rfl

end Sys2Proof.Machine

/-! 70_reset_and_hazards.md, section 1: what RESET leaves (R36, R104). -/

namespace Sys2Proof.Machine

/-- Of the state it meets, RESET keeps the configuration and what is the model's own; all else is the launch state's. -/
theorem exec_reset (s : State) :
    exec .reset s = .next { State.resetWith s.cfg with inputs := s.inputs, choices := s.choices } := rfl

/-- RESET at a state where RESET has just been performed (R104). -/
theorem reset_idempotent {s t : State} (h : exec .reset s = .next t) : exec .reset t = .next t := by
  cases (exec_reset s).symm.trans h
  exact exec_reset _

/-- With every direction bit 0 every pin is an input, whatever its level bit (R28). -/
theorem pinState_of_inputs (lvl : PinMask) (p : Pin) : pinState 0 lvl p = .z := by
  simp [pinState]

/-- Settles O34: what RESET leaves is the launch state of the configuration, read field by field. -/
theorem resetSetsEveryElement : Obligations.ResetSetsEveryElement := by
  refine ⟨fun s => ⟨_, exec_reset s, ?_⟩, fun c => exec_reset (State.resetWith c)⟩
  have hlength : (State.resetWith s.cfg).pd.length = s.cfg.npat := List.length_replicate
  have hzero : ∀ x ∈ (State.resetWith s.cfg).pd, x = 0 := fun _ hx => List.eq_of_mem_replicate hx
  exact ⟨rfl, rfl, hlength, hzero, rfl, rfl, rfl, rfl, rfl, rfl, ⟨rfl, rfl, rfl⟩, rfl, rfl,
    pinState_of_inputs 0, reset_idempotent (exec_reset s)⟩

end Sys2Proof.Machine

/-! 30_encoding.md: encoder and decoder are inverse, the rows of the opcode map are apart, and what `NPAT` decides (R55,
R56, R59). -/

namespace Sys2Proof

/-! ## The fields of a word -/

/-- The one word of an `OP` without operands (R55). -/
theorem eq_fixedWord_iff (cw : CommandWord) (op : BitVec 4) :
    cw = commandWord op 0 0 ↔ opField cw = op ∧ selField cw = 0 ∧ immField cw = 0 := by
  conv_lhs => rw [← commandWord_fields cw, commandWord_inj]

theorem slotField_eq (cw : CommandWord) : slotField cw = (selField cw).extractLsb' 0 3 := by
  apply BitVec.eq_of_toNat_eq
  simp only [slotField, selField, BitVec.extractLsb'_toNat, Nat.shiftRight_eq_div_pow]
  omega

/-- A selector whose top bit is 0 is its slot (R54). -/
theorem append_slotField {cw : CommandWord} (h : selField cw &&& 8 = 0) : 0#1 ++ slotField cw = selField cw := by
  have hsel : ∀ s : Selector, s &&& 8 = 0 → 0#1 ++ s.extractLsb' 0 3 = s := by decide
  rw [slotField_eq]
  exact hsel _ h

theorem slotField_commandWord (op : BitVec 4) (k : Slot) (imm : BitVec 8) :
    slotField (commandWord op (0#1 ++ k) imm) = k := by
  rw [slotField_eq, selField_commandWord]
  revert k
  decide

theorem slotSelector_top (k : Slot) : 0#1 ++ k &&& 8#4 = 0#4 := by
  revert k
  decide

/-- `decodeCommand_chain` with the fixed words read as fields too. -/
theorem decodeCommand_fields (npat : Nat) (cw : CommandWord) (din : Word32) :
    decodeCommand npat cw din =
      if opField cw = 0 ∧ selField cw = 0 ∧ immField cw = 0 then .op .nop
      else if opField cw = 1 ∧ selField cw &&& 8 = 0 ∧ immField cw = 0 then .op (.ledSet (slotField cw))
      else if opField cw = 2 ∧ selField cw &&& 8 = 0 ∧ immField cw = 0 then .op (.ledClr (slotField cw))
      else if opField cw = 3 ∧ selField cw = 0 then .op (.ledWr (immField cw))
      else if opField cw = 4 ∧ selField cw = 0 ∧ immField cw = 0 then .op .ledRd
      else if opField cw = 5 ∧ immField cw = 0 ∧ tmrWrLegal npat (selField cw) = true then
        .op (.tmrWr (selField cw) din)
      else if opField cw = 6 ∧ immField cw = 0 ∧ tmrRdLegal npat (selField cw) = true then
        .op (.tmrRd (selField cw))
      else if opField cw = 7 ∧ selField cw = 0 ∧ immField cw = 0 then .op .wakeClr
      else .rejected (rejectCommand cw) := by
  have h0 : cw = 0x0000 ↔ _ := eq_fixedWord_iff cw 0
  have h4 : cw = 0x4000 ↔ _ := eq_fixedWord_iff cw 4
  have h7 : cw = 0x7000 ↔ _ := eq_fixedWord_iff cw 7
  simp only [decodeCommand_chain, h0, h4, h7]

/-! ## Encoder and decoder -/

theorem decodeWord_encode {npat : Nat} {i : Instr} (hwf : i.wf npat = true) : decodeWord npat (encode i) = .op i := by
  cases i with
  | nop | ledRd | wakeClr | tick | reset => rfl
  | ledSet k | ledClr k =>
    simp [encode, decodeWord, decodeCommand_fields, slotSelector_top, slotField_commandWord]
  | ledWr m => simp [encode, decodeWord, decodeCommand_fields]
  | tmrWr sel v =>
    rw [Instr.wf] at hwf
    simp [encode, decodeWord, decodeCommand_fields, hwf]
  | tmrRd sel =>
    rw [Instr.wf] at hwf
    simp [encode, decodeWord, decodeCommand_fields, hwf]

/-- Settles O1: each operation's word has the fields of the operation's row and of no row before it. -/
theorem decodeOfEncodeIsTheOperation : Obligations.DecodeOfEncodeIsTheOperation :=
  fun _ _ _ hwf => decodeWord_encode hwf

/-- `DIN` as the encoder gives it beside a command word: TMR.WR alone reads it (R52). -/
def encodedDin (cw : CommandWord) (din : Word32) : Word32 := if opField cw = 5 then din else 0

theorem decodeCommand_encodedDin (npat : Nat) (cw : CommandWord) (din : Word32) :
    decodeCommand npat cw (encodedDin cw din) = decodeCommand npat cw din := by
  by_cases h : opField cw = 5
  · rw [encodedDin, if_pos h]
  · simp only [decodeCommand_fields, h, false_and, if_false]

/-- Each row of the opcode map fixes the fields that its operation's word has. -/
theorem wf_and_encode_of_decodeCommand {npat : Nat} {cw : CommandWord} {din : Word32} {i : Instr}
    (h : decodeCommand npat cw din = .op i) : i.wf npat = true ∧ encode i = .command cw (encodedDin cw din) := by
  rw [decodeCommand_fields] at h
  rw [congrArg (InputWord.command · (encodedDin cw din)) (commandWord_fields cw).symm]
  split_ifs at h with h0 h1 h2 h3 h4 h5 h6 h7 <;> cases h
  · simp [Instr.wf, encode, encodedDin, h0]
  · simp [Instr.wf, encode, encodedDin, h1, append_slotField h1.2.1]
  · simp [Instr.wf, encode, encodedDin, h2, append_slotField h2.2.1]
  · simp [Instr.wf, encode, encodedDin, h3]
  · simp [Instr.wf, encode, encodedDin, h4]
  · simp [Instr.wf, encode, encodedDin, h5]
  · simp [Instr.wf, encode, encodedDin, h6]
  · simp [Instr.wf, encode, encodedDin, h7]

/-- A command word is an operation exactly when the operation is well formed and the word is its own, `DIN` apart. -/
theorem decodeCommand_eq_op_iff (npat : Nat) (cw : CommandWord) (din : Word32) (i : Instr) :
    decodeCommand npat cw din = .op i ↔ i.wf npat = true ∧ encode i = .command cw (encodedDin cw din) := by
  constructor
  · exact wf_and_encode_of_decodeCommand
  · rintro ⟨hwf, henc⟩
    have h := decodeWord_encode hwf
    rw [henc] at h
    exact (decodeCommand_encodedDin npat cw din).symm.trans h

/-- Settles O2: for a command word by `decodeCommand_eq_op_iff`; the two event words are the encoder's. -/
theorem everyLegalWordIsItsOperationsWord : Obligations.EveryLegalWordIsItsOperationsWord := by
  intro npat w i _ h
  cases w with
  | command cw din => exact wf_and_encode_of_decodeCommand h
  | event ev =>
    rw [decodeWord, decodeEvent] at h
    split_ifs at h with _ h1 h2 <;> cases h
    · exact ⟨rfl, by rw [h1]; rfl⟩
    · exact ⟨rfl, by rw [h2]; rfl⟩

/-! ## Rows -/

/-- Every row fixes the whole `OP` field (R55). -/
theorem opField_of_hits {r : CommandRow} (hr : r ∈ commandRows) {cw : CommandWord} (h : r.hits cw = true) :
    opField cw = opField r.matchBits := by
  have hmask : ∀ r ∈ commandRows, opField r.mask = 0xF := by decide
  rw [CommandRow.hits, beq_iff_eq, ← commandWord_fields r.mask, ← commandWord_fields r.matchBits,
    masked_iff_fields, hmask r hr, keep4] at h
  exact h.1

/-- Settles O4: a row fixes `OP`, and no two rows have the same. -/
theorem noWordHasTheBitsOfTwoRows : Obligations.NoWordHasTheBitsOfTwoRows := by
  intro cw r₁ r₂ h₁ h₂ hit₁ hit₂
  have hrows : ∀ r₁ ∈ commandRows, ∀ r₂ ∈ commandRows,
      opField r₁.matchBits = opField r₂.matchBits → r₁.mnemonic = r₂.mnemonic := by decide
  exact hrows r₁ h₁ r₂ h₂ ((opField_of_hits h₁ hit₁).symm.trans (opField_of_hits h₂ hit₂))

/-! ## `NPAT` -/

theorem wf_mono {n m : Nat} (hnm : n ≤ m) {i : Instr} (h : i.wf n = true) : i.wf m = true := by
  cases i with
  | tmrWr s v =>
    rw [Instr.wf, tmrWrLegal_iff] at h ⊢
    exact h.imp_left fun hlt => Nat.lt_of_lt_of_le hlt hnm
  | tmrRd s =>
    rw [Instr.wf, tmrRdLegal_iff] at h ⊢
    exact h.imp_left fun hlt => Nat.lt_of_lt_of_le hlt hnm
  | nop | ledSet _ | ledClr _ | ledWr _ | ledRd | wakeClr | tick | reset => rfl

/-- What more counters make well formed: the timer commands of the selectors between (R59). -/
theorem timer_of_wf_of_not_wf {n m : Nat} {i : Instr} (hm : i.wf m = true) (hn : i.wf n ≠ true) :
    ∃ s : Selector, n ≤ s.toNat ∧ s.toNat < m ∧ ((∃ v, i = .tmrWr s v) ∨ i = .tmrRd s) := by
  cases i with
  | tmrWr s v =>
    rw [Instr.wf, Ne, tmrWrLegal_iff] at hn
    rw [Instr.wf, tmrWrLegal_iff] at hm
    obtain ⟨hge, hfixed⟩ := not_or.mp hn
    exact ⟨s, Nat.le_of_not_lt hge, hm.resolve_right hfixed, .inl ⟨v, rfl⟩⟩
  | tmrRd s =>
    rw [Instr.wf, Ne, tmrRdLegal_iff] at hn
    rw [Instr.wf, tmrRdLegal_iff] at hm
    obtain ⟨hge, hfixed⟩ := not_or.mp hn
    exact ⟨s, Nat.le_of_not_lt hge, hm.resolve_right hfixed, .inr rfl⟩
  | nop | ledSet _ | ledClr _ | ledWr _ | ledRd | wakeClr | tick | reset => exact absurd rfl hn

/-- Settles O5: the word of an operation does not depend on `NPAT`; its well-formedness does, and only by the selector. -/
theorem npatOnlyMovesTheSelectorBoundary : Obligations.NpatOnlyMovesTheSelectorBoundary := by
  intro n m cw din i hnm _
  simp only [ne_eq, decodeCommand_eq_op_iff]
  refine ⟨fun ⟨hwf, henc⟩ => ⟨wf_mono hnm hwf, henc⟩, fun ⟨hwf, henc⟩ hnot => ?_⟩
  obtain ⟨s, hn, hm, hi⟩ := timer_of_wf_of_not_wf hwf fun h => hnot ⟨h, henc⟩
  refine ⟨s, hn, hm, hi.imp_left ?_⟩
  rintro ⟨v, rfl⟩
  obtain ⟨rfl, hv⟩ := InputWord.command.inj henc
  rw [hv, encodedDin, if_pos (opField_commandWord 5 s 0)]

/-- Settles O6: six closed words, decoded by evaluation. -/
theorem vectorWordsDecode : Obligations.VectorWordsDecode := by
  unfold Obligations.VectorWordsDecode
  decide

end Sys2Proof

/-! 30_encoding.md, section 4, and 60_exceptions.md, section 1: which command words are illegal and under which reason, and
that every legal operation completes (R57, R82, R83, R88). -/

namespace Sys2Proof.Machine

/-! ## Reserved selectors -/

/-- A selector is reserved from `NPAT` to 0xB (R39). -/
theorem tmrRdLegal_iff_not_reserved (npat : Nat) (s : Selector) :
    tmrRdLegal npat s = true ↔ ¬ (npat ≤ s.toNat ∧ s.toNat ≤ 0xB) := by
  have hfixed : ∀ s : Selector, s ∈ [0xC#4, 0xD#4, 0xE#4, 0xF#4] ↔ 0xB < s.toNat := by decide
  rw [tmrRdLegal_iff, hfixed]
  omega

/-- TMR.WR may name what TMR.RD may, the wake clock apart (R83). -/
theorem tmrWrLegal_iff_not_reserved {npat : Nat} (hnpat : npat ≤ 12) (s : Selector) :
    tmrWrLegal npat s = true ↔ ¬ (npat ≤ s.toNat ∧ s.toNat ≤ 0xB) ∧ s ≠ 0xF := by
  have hfixed : ∀ s : Selector, s ∈ [0xC#4, 0xD#4, 0xE#4] ↔ 0xB < s.toNat ∧ s ≠ 0xF := by decide
  rw [tmrWrLegal_iff, hfixed]
  bv_omega

theorem selected_eq_none_iff (npat : Nat) (s : Selector) :
    selected npat s = none ↔ npat ≤ s.toNat ∧ s.toNat ≤ 0xB := by
  rcases selected_cases npat s with ⟨hlt, e⟩ | ⟨hge, ⟨hs, e⟩ | ⟨hs, e⟩ | ⟨hs, e⟩ | ⟨hs, e⟩ | ⟨hle, e⟩⟩ <;> rw [e]
  case inr.inr.inr.inr.inr => exact iff_of_true rfl ⟨hge, hle⟩
  all_goals
    refine iff_of_false (Option.some_ne_none _) ?_
    bv_omega

/-! ## Legal operations complete -/

/-- Settles O15: the only refusals of an operation are for selectors that a well-formed one does not name. -/
theorem everyLegalOperationCompletes : Obligations.EveryLegalOperationCompletes := by
  intro i s hnpat hwf
  cases hexec : exec i s with
  | next t => exact ⟨t, rfl⟩
  | fault f => cases f
  | refused r =>
    rcases exec_refused_cases hexec with ⟨⟨v, rfl⟩, -⟩ | ⟨sel, ⟨v, rfl⟩ | rfl, hnone, -⟩
    · exact absurd rfl ((tmrWrLegal_iff_not_reserved hnpat 0xF).mp hwf).2
    · exact absurd ((selected_eq_none_iff _ _).mp hnone) ((tmrWrLegal_iff_not_reserved hnpat sel).mp hwf).1
    · exact absurd ((selected_eq_none_iff _ _).mp hnone) ((tmrRdLegal_iff_not_reserved _ sel).mp hwf)

/-! ## The illegal command words -/

theorem rejectCommand_of_illegalField {cw : CommandWord} (h : HasIllegalField cw) :
    rejectCommand cw = .illegalCommand cw := by
  by_cases himm : immField cw = 0
  · have hop : opField cw ≠ 5 ∧ opField cw ≠ 6 := by
      rcases h with hop | ⟨hop | hop | hop, -⟩ | ⟨hop | hop, -⟩ | ⟨hop, -⟩ | ⟨-, hne⟩
      · constructor <;> rintro e <;> rw [e] at hop <;> exact absurd hop (by decide)
      case inr.inr.inr.inr => exact absurd himm hne
      all_goals rw [hop]; decide
    exact rejectCommand_of_not_timer hop.1 hop.2
  · exact if_neg himm

theorem rejectCommand_of_reservedSelector {npat : Nat} {cw : CommandWord} (h : NamesReservedSelector npat cw) :
    rejectCommand cw = .reservedSelector (selField cw) := by
  obtain ⟨hop, himm, -, hle⟩ := h
  have hsel : selField cw ≠ 0xF := by bv_omega
  rcases hop with hop | hop <;> simp [rejectCommand, hop, himm]
  exact hsel

theorem rejectCommand_of_writesWake {cw : CommandWord} (h : WritesWake cw) : rejectCommand cw = .wakeNotWritable := by
  obtain ⟨hop, himm, hsel⟩ := h
  simp [rejectCommand, hop, himm, hsel]

/-- The word of a well-formed operation is none of the illegal words of section 4. -/
theorem legal_of_encode {npat : Nat} (hnpat : npat ≤ 12) {i : Instr} (hwf : i.wf npat = true) {cw : CommandWord}
    {din : Word32} (h : encode i = .command cw din) :
    ¬ HasIllegalField cw ∧ ¬ NamesReservedSelector npat cw ∧ ¬ WritesWake cw := by
  cases i with
  | tick | reset => cases h
  | nop | ledRd | wakeClr => cases h; simp
  | ledSet k | ledClr k =>
    have hk : ∀ k : Slot, ¬ 8 ≤ (0#1 ++ k).toNat := by decide
    cases h
    simpa using hk k
  | ledWr m => cases h; simp
  | tmrWr sel v =>
    cases h
    simpa using (tmrWrLegal_iff_not_reserved hnpat sel).mp hwf
  | tmrRd sel =>
    cases h
    simpa using (tmrRdLegal_iff_not_reserved npat sel).mp hwf

/-- Every other command word is an operation: its `OP` is one of the eight rows' and its fields are as the row wants. -/
theorem exists_op_of_legal {npat : Nat} (hnpat : npat ≤ 12) {cw : CommandWord} (din : Word32)
    (hill : ¬ HasIllegalField cw) (hres : ¬ NamesReservedSelector npat cw) (hwake : ¬ WritesWake cw) :
    ∃ i, decodeCommand npat cw din = .op i := by
  have hop : ∀ op : BitVec 4, ¬ 8 ≤ op.toNat →
      op = 0 ∨ op = 1 ∨ op = 2 ∨ op = 3 ∨ op = 4 ∨ op = 5 ∨ op = 6 ∨ op = 7 := by decide
  have htop : ∀ s : Selector, ¬ 8 ≤ s.toNat → s &&& 8#4 = 0#4 := by decide
  rcases hop (opField cw) fun h => hill (.inl h) with hop | hop | hop | hop | hop | hop | hop | hop
  case inl | inr.inr.inr.inr.inl | inr.inr.inr.inr.inr.inr.inr =>
    have hfields : selField cw = 0 ∧ immField cw = 0 := by simpa [hop] using hill
    simp [decodeCommand_fields, hop, hfields]
  case inr.inl | inr.inr.inl =>
    have hfields : ¬ 8 ≤ (selField cw).toNat ∧ immField cw = 0 := by simpa [hop] using hill
    simp [decodeCommand_fields, hop, htop _ hfields.1, hfields.2]
  case inr.inr.inr.inl =>
    have hsel : selField cw = 0 := by simpa [hop] using hill
    simp [decodeCommand_fields, hop, hsel]
  case inr.inr.inr.inr.inr.inl =>
    have himm : immField cw = 0 := by simpa [hop] using hill
    have hlegal : tmrWrLegal npat (selField cw) = true := (tmrWrLegal_iff_not_reserved hnpat _).mpr
      ⟨fun h => hres ⟨.inl hop, himm, h⟩, fun h => hwake ⟨hop, himm, h⟩⟩
    simp [decodeCommand_fields, hop, himm, hlegal]
  case inr.inr.inr.inr.inr.inr.inl =>
    have himm : immField cw = 0 := by simpa [hop] using hill
    have hlegal : tmrRdLegal npat (selField cw) = true :=
      (tmrRdLegal_iff_not_reserved npat _).mpr fun h => hres ⟨.inr hop, himm, h⟩
    simp [decodeCommand_fields, hop, himm, hlegal]

theorem decodeCommand_of_no_op {npat : Nat} {cw : CommandWord} {din : Word32}
    (h : ∀ i, decodeCommand npat cw din ≠ .op i) : decodeCommand npat cw din = .rejected (rejectCommand cw) := by
  simp only [decodeCommand_fields] at h ⊢
  split_ifs at h ⊢
  case neg => rfl
  all_goals exact absurd rfl (h _)

/-- The words of section 4 are rejected: they are no operation's word. -/
theorem decodeCommand_of_illegal {npat : Nat} (hnpat : npat ≤ 12) {cw : CommandWord} (din : Word32)
    (h : HasIllegalField cw ∨ NamesReservedSelector npat cw ∨ WritesWake cw) :
    decodeCommand npat cw din = .rejected (rejectCommand cw) := by
  apply decodeCommand_of_no_op
  intro i hi
  obtain ⟨hwf, henc⟩ := wf_and_encode_of_decodeCommand hi
  obtain ⟨hill, hres, hwake⟩ := legal_of_encode hnpat hwf henc
  exact h.elim hill fun h => h.elim hres hwake

/-- Every command word is an operation or rejected under one of the three reasons of section 4. -/
theorem decodeCommand_cases {npat : Nat} (hnpat : npat ≤ 12) (cw : CommandWord) (din : Word32) :
    (∃ i, decodeCommand npat cw din = .op i) ∨
    (HasIllegalField cw ∧ decodeCommand npat cw din = .rejected (.illegalCommand cw)) ∨
    (NamesReservedSelector npat cw ∧ decodeCommand npat cw din = .rejected (.reservedSelector (selField cw))) ∨
    (WritesWake cw ∧ decodeCommand npat cw din = .rejected .wakeNotWritable) := by
  by_cases hill : HasIllegalField cw
  · have e := decodeCommand_of_illegal hnpat din (.inl hill)
    rw [rejectCommand_of_illegalField hill] at e
    exact .inr (.inl ⟨hill, e⟩)
  by_cases hres : NamesReservedSelector npat cw
  · have e := decodeCommand_of_illegal hnpat din (.inr (.inl hres))
    rw [rejectCommand_of_reservedSelector hres] at e
    exact .inr (.inr (.inl ⟨hres, e⟩))
  by_cases hwake : WritesWake cw
  · have e := decodeCommand_of_illegal hnpat din (.inr (.inr hwake))
    rw [rejectCommand_of_writesWake hwake] at e
    exact .inr (.inr (.inr ⟨hwake, e⟩))
  exact .inl (exists_op_of_legal hnpat din hill hres hwake)

/-! ## The step on a word -/

/-- A word presented alone is decoded and performed, with the rest left to be presented. -/
theorem step_alone {s : State} {w : InputWord} {later : List Arrival} (hwf : configWf s.cfg = true)
    (h : s.inputs = arrivalOf w :: later) (hw : w ≠ .event 0b00) :
    step s = perform (decodeWord s.cfg.npat w) { s with inputs := later } := by
  rw [step_of_wf hwf, fetch_alone h hw]

theorem exec_of_decodeWord {s : State} {w : InputWord} {i : Instr} (hwf : configWf s.cfg = true)
    (h : decodeWord s.cfg.npat w = .op i) : ∃ t, exec i s = .next t := by
  obtain ⟨-, hle⟩ := npat_le_of_wf hwf
  exact everyLegalOperationCompletes i s hle (everyLegalWordIsItsOperationsWord _ w i hle h).1

/-- Settles O13: the word is decoded, and `decodeCommand_of_illegal` and `exists_op_of_legal` say to what. -/
theorem illegalCommandWordsAreRefused : Obligations.IllegalCommandWordsAreRefused := by
  intro s cw din later hwf hin
  have hstep : step s = perform (decodeCommand s.cfg.npat cw din) { s with inputs := later } :=
    step_alone (w := .command cw din) hwf hin (by simp)
  obtain ⟨-, hnpat⟩ := npat_le_of_wf hwf
  rw [hstep]
  refine ⟨fun h => ?_, fun h => ?_, fun h => ?_, fun hill hres hwake => ?_⟩
  · rw [decodeCommand_of_illegal hnpat din (.inl h), rejectCommand_of_illegalField h]
    rfl
  · rw [decodeCommand_of_illegal hnpat din (.inr (.inl h)), rejectCommand_of_reservedSelector h]
    rfl
  · rw [decodeCommand_of_illegal hnpat din (.inr (.inr h)), rejectCommand_of_writesWake h]
    rfl
  · obtain ⟨i, hi⟩ := exists_op_of_legal hnpat din hill hres hwake
    rw [hi]
    exact exec_of_decodeWord (w := .command cw din) (s := { s with inputs := later }) hwf hi

/-- WAKE's own word is the one word that is refused as not writable. -/
theorem eq_of_writesWake {cw : CommandWord} (h : WritesWake cw) : cw = 0x5F00 := by
  obtain ⟨hop, himm, hsel⟩ := h
  rw [← commandWord_fields cw, hop, himm, hsel]
  rfl

/-- A refusing step either found a bad configuration, or fetched a word that the decoder rejects. -/
theorem step_refused_cases {s : State} {r : Refusal} (h : step s = .refused r) :
    (configWf s.cfg = false ∧ ∃ k, r = .badConfiguration k) ∨
    (configWf s.cfg = true ∧ ∃ w j, (fetch s).word = some w ∧ decodeWord s.cfg.npat w = .rejected j ∧
      r = refusalOf j) := by
  cases hwf : configWf s.cfg with
  | false =>
    obtain ⟨k, -, e⟩ := step_of_not_wf hwf
    cases e.symm.trans h
    exact .inl ⟨rfl, k, rfl⟩
  | true =>
    refine .inr ⟨rfl, ?_⟩
    rw [step_of_wf hwf] at h
    split at h
    · cases h
    next w hw =>
      refine ⟨w, ?_⟩
      obtain ⟨l, n, hrest⟩ := fetch_rest s
      cases hd : decodeWord s.cfg.npat w with
      | op i =>
        rw [hd, hrest] at h
        obtain ⟨t, ht⟩ := exec_of_decodeWord (s := { s with inputs := l, choices := n }) hwf hd
        cases ht.symm.trans h
      | nothing =>
        rw [hd] at h
        cases h
      | rejected j =>
        rw [hd] at h
        cases h
        exact ⟨j, hw, rfl, rfl⟩

/-- Settles O14: `Fault` has no value; a refusal is one of `step_refused_cases`, its word one of `decodeCommand_cases` or
the reserved event word. -/
theorem stepsRefuseOnlyForTheListedReasons : Obligations.StepsRefuseOnlyForTheListedReasons := by
  refine fun s => ⟨nofun, fun r h => ?_⟩
  rcases step_refused_cases h with hbad | ⟨hwf, w, j, hw, hj, rfl⟩
  · exact .inl hbad
  have hno : ∀ i, decodeWord s.cfg.npat w ≠ .op i := fun i hi => by cases hi.symm.trans hj
  refine .inr ⟨hwf, w, hw, hno, ?_⟩
  cases w with
  | command cw din =>
    rcases decodeCommand_cases (npat_le_of_wf hwf).2 cw din with
      ⟨i, e⟩ | ⟨-, e⟩ | ⟨⟨-, -, hge, hle⟩, e⟩ | ⟨hwake, e⟩ <;> cases e.symm.trans hj
    · exact ⟨din, rfl⟩
    · exact ⟨hge, hle, cw, din, rfl, rfl⟩
    · exact ⟨din, by rw [eq_of_writesWake hwake]⟩
  | event ev =>
    rw [decodeWord, decodeEvent] at hj
    split_ifs at hj with h0 h1 h2
    cases hj
    exact ⟨by bv_omega, rfl⟩

end Sys2Proof.Machine

/-! 20_memory.md, section 4, and 60_exceptions.md, section 2: what a step performs of what is presented (R45, R51, R91,
R92, R113). -/

namespace Sys2Proof.Machine

/-! ## One word presented alone -/

/-- Settles O7: a word that is an operation is no empty event word, so it is the word fetched. -/
theorem stepPerformsTheDecodedOperation : Obligations.StepPerformsTheDecodedOperation := by
  intro s w later i hwf hin hd
  have hw : w ≠ .event 0b00 := by
    rintro rfl
    cases hd
  rw [step_alone hwf hin hw, hd]
  rfl

/-- An empty event word with no command beside it is no operation (R53). -/
theorem step_noEvent {s : State} {later : List Arrival} (hwf : configWf s.cfg = true)
    (h : s.inputs = ⟨0b00, none⟩ :: later) : step s = .next (beginOp { s with inputs := later }) := by
  have hfetch : fetch s = ⟨none, { s with inputs := later }⟩ := by simp [fetch, h]
  rw [step_of_wf hwf, hfetch]
  rfl

/-- Settles O8, event word by event word. -/
theorem stepOnEachEventWord : Obligations.StepOnEachEventWord := by
  intro s later hwf
  refine ⟨fun h => ⟨_, step_noEvent hwf h, beginOp_sameBlock _⟩, fun h => ?_, fun h => ?_, fun h => ?_⟩
  · exact stepPerformsTheDecodedOperation s (.event 0b01) later .tick hwf h rfl
  · exact stepPerformsTheDecodedOperation s (.event 0b10) later .reset hwf h rfl
  · exact step_alone (w := .event 0b11) hwf h (by decide)

/-! ## An event and a command together -/

/-- Settles O9: each value of the free choice gives one of the two orders. -/
theorem coincidingTickAndCommandRunInSomeOrder : Obligations.CoincidingTickAndCommandRunInSomeOrder := by
  intro s c later i hwf hin hd
  have hfetch : fetch s = fetchEither 0b01 c later s := by simp [fetch, hin]
  rw [step_of_wf hwf, hfetch]
  cases hfirst : Config.eventFirst s.choices with
  | true =>
    rw [fetchEither, if_pos hfirst]
    exact .inl rfl
  | false =>
    rw [fetchEither, if_neg (by rw [hfirst]; decide)]
    refine .inr ?_
    show perform (decodeCommand s.cfg.npat c.cw c.din) _ = _
    rw [hd]
    rfl

/-- Settles O10: RESET is the word fetched, and each value of the free choice keeps or drops the command. -/
theorem resetPrecedesACoincidingCommand : Obligations.ResetPrecedesACoincidingCommand := by
  intro s c later hwf hin
  have hfetch : fetch s = fetchAtReset 0b10 c later s := by simp [fetch, hin]
  have hstep : step s = exec .reset (fetchAtReset 0b10 c later s).rest := by
    rw [step_of_wf hwf, hfetch]
    rfl
  refine ⟨_, hstep.trans (exec_reset _), ?_⟩
  cases hkept : Config.keptAfterReset s.choices with
  | true =>
    rw [fetchAtReset, if_pos hkept]
    exact .inl rfl
  | false =>
    rw [fetchAtReset, if_neg (by rw [hkept]; decide)]
    exact .inr rfl

/-! ## Nothing presented -/

theorem step_nothingPresented {s : State} (hwf : configWf s.cfg = true) (h : s.inputs = []) :
    step s = .next (beginOp s) := by
  have hfetch : fetch s = ⟨none, s⟩ := by simp [fetch, h]
  rw [step_of_wf hwf, hfetch]
  rfl

/-- Settles O11, by induction on the number of steps: each only begins an operation. -/
theorem nothingChangesWhileNothingIsPresented : Obligations.NothingChangesWhileNothingIsPresented := by
  intro n
  induction n with
  | zero => exact fun s _ _ => ⟨s, rfl, rfl, ⟨rfl, rfl, rfl⟩, ⟨rfl, rfl, rfl, rfl, rfl⟩, rfl, rfl, rfl⟩
  | succ n ih =>
    intro s hwf hin
    rw [run_succ (step_nothingPresented hwf hin)]
    exact ih (beginOp s) hwf hin

end Sys2Proof.Machine

/-! 10_state.md, section 5, and 40_tick.md, section 3: which LEDs are lit, by a row, by a TICK and by RESET (R25, R29, R63,
R73, R104). -/

namespace Sys2Proof.Machine

/-! ## One row -/

/-- The row of a well-formed pair of pins drives its anode high, its cathode low and no other pin (R25, R28). -/
theorem pinState_row : ∀ a b p : Pin, a ≠ b →
    pinState (pinMask a ||| pinMask b) (pinMask a) p = if p = a then .h else if p = b then .l else .z := by
  decide

/-- From such a row's anode pin to its cathode pin is the one way from a high pin to a low pin. -/
theorem row_lights_iff : ∀ a b p q : Pin, a ≠ b →
    ((pinState (pinMask a ||| pinMask b) (pinMask a) p == .h &&
      pinState (pinMask a ||| pinMask b) (pinMask a) q == .l) = true ↔ p = a ∧ q = b) := by
  decide

/-- A row lights the LED of just its pair of pins, and no two LEDs have one pair (R29). -/
theorem litSlot_row {c : Config} (hwf : configWf c = true) (j k : Slot) :
    litSlot c (dirRow c k) (lvlRow c k) j = decide (j = k) := by
  obtain ⟨hne, hdir, hlvl⟩ := row_of_wf hwf k
  rw [Bool.eq_iff_iff, decide_eq_true_iff, litSlot, hdir, hlvl, row_lights_iff _ _ _ _ hne]
  constructor
  · rintro ⟨hanode, hcathode⟩
    exact wire_injective_of_wf hwf (congrArg₂ Wire.mk hanode hcathode)
  · rintro rfl
    exact ⟨rfl, rfl⟩

theorem filter_allSlots_eq (k : Slot) : allSlots.filter (fun j => decide (j = k)) = [k] := by
  revert k
  decide

theorem lit_row {c : Config} (hwf : configWf c = true) (k : Slot) : lit c (dirRow c k) (lvlRow c k) = [k] := by
  rw [lit, funext fun j => litSlot_row hwf j k, filter_allSlots_eq]

/-- Settles O32: the pins by `pinState_row`, the LED by `lit_row`. -/
theorem eachRowLightsExactlyItsLed : Obligations.EachRowLightsExactlyItsLed := by
  refine fun c k hwf => ⟨lit_row hwf k, fun p => ?_⟩
  obtain ⟨hne, hdir, hlvl⟩ := row_of_wf hwf k
  rw [hdir, hlvl]
  exact pinState_row _ _ p hne

/-! ## TICK and RESET -/

/-- Settles O33: every snapshot but the whole row's has every level bit 0. -/
theorem noWrongLedDuringATick : Obligations.NoWrongLedDuringATick := by
  intro s t hwf h
  rcases tick_bus h with ⟨hon, htrace, -⟩ | ⟨hoff, htrace, -⟩
  · rw [if_pos hon, htrace]
    simp only [List.map_cons, List.map_nil, litBy, lit_of_levels_low, lit_row hwf]
  · rw [if_neg (by rw [hoff]; decide), htrace]
    simp only [List.map_cons, List.map_nil, litBy, lit_of_levels_low]

/-- What one snapshot of a TICK lights: nothing, or the serviced slot if it is requested. -/
theorem tick_snapshot_lit {s t : State} (hwf : configWf s.cfg = true) (h : exec .tick s = .next t) {p : Snapshot}
    (hp : p ∈ t.pinTrace) :
    litBy s.cfg p = [] ∨ (s.led.getLsbD s.cur.toNat = true ∧ litBy s.cfg p = [s.cur]) := by
  have hlit := List.mem_map_of_mem (f := litBy s.cfg) hp
  rw [noWrongLedDuringATick s t hwf h] at hlit
  split at hlit
  next hon =>
    simp only [List.mem_cons, List.not_mem_nil, or_false] at hlit
    rcases hlit with e | e | e | e
    case inr.inr.inr => exact .inr ⟨hon, e⟩
    all_goals exact .inl e
  next =>
    simp only [List.mem_cons, List.not_mem_nil, or_false, or_self] at hlit
    exact .inl hlit

/-- Settles O30: the two traces a TICK can have. -/
theorem tickIsTotal : Obligations.TickIsTotal := by
  intro s
  obtain ⟨b, hb, -⟩ := tick_cases s
  refine ⟨_, hb, ?_⟩
  rcases tick_bus hb with ⟨-, htrace, -⟩ | ⟨-, htrace, -⟩ <;> rw [htrace]
  · exact .inr rfl
  · exact .inl rfl

/-- Settles O35: RESET's bus and its one snapshot have every level bit 0. -/
theorem resetLightsNoLed : Obligations.ResetLightsNoLed := by
  refine fun s => ⟨_, exec_reset s, lit_of_levels_low _ _, fun p hp => ?_⟩
  rw [List.mem_singleton.mp hp]
  exact lit_of_levels_low _ _

/-! ## What of the bitmask a TICK reads -/

/-- `CUR <- k` (R66). -/
def moveCursor (k : Slot) (s : State) : State := { s with cur := k }

theorem advance_eq (s : State) : advance s =
    if s.cur = 7 then epoch (moveCursor (s.cur + 1) s) else moveCursor (s.cur + 1) s := by
  rcases advance_cases s with ⟨h7, e⟩ | ⟨h7, e⟩
  · rw [e, if_pos h7, h7]
    rfl
  · rw [e, if_neg h7]
    rfl

/-- Step 4 of a TICK commutes with any change of the state that keeps the cursor and commutes with moving it and with the
epoch bookkeeping. -/
theorem advance_comm {f : State → State} (hcur : ∀ b, (f b).cur = b.cur)
    (hmove : ∀ k b, f (moveCursor k b) = moveCursor k (f b)) (hepoch : ∀ b, f (epoch b) = epoch (f b)) (s : State) :
    advance (f s) = f (advance s) := by
  rw [advance_eq, advance_eq, hcur, apply_ite f, hepoch, hmove]

/-- Another bitmask with the same bit at the cursor makes no difference to a TICK but that it stays another bitmask. -/
theorem tick_setLed {s t : State} {m : LedMask} (hbit : m.getLsbD s.cur.toNat = s.led.getLsbD s.cur.toNat)
    (h : exec .tick s = .next t) : exec .tick (setLed m s) = .next (setLed m t) := by
  obtain ⟨b, hb, hrow⟩ := tick_cases s
  obtain ⟨b', hb', hrow'⟩ := tick_cases (setLed m s)
  cases hb.symm.trans h
  have hsame : b' = setLed m b := by
    rcases hrow with ⟨hon, rfl⟩ | ⟨hoff, rfl⟩ <;> rcases hrow' with ⟨hon', rfl⟩ | ⟨hoff', rfl⟩
    · rfl
    · exact absurd ((hbit.trans hon).symm.trans hoff') (by decide)
    · exact absurd ((hbit.trans hoff).symm.trans hon') (by decide)
    · rfl
  rw [hb', hsame, advance_comm (f := setLed m) (fun _ => rfl) (fun _ _ => rfl) (fun _ => rfl)]

/-- Settles O31: with the same bit by `tick_setLed`; with another bit one trace has 4 snapshots and the other 2. -/
theorem tickReadsOnlyTheCursorsBit : Obligations.TickReadsOnlyTheCursorsBit := by
  intro s t m h
  obtain ⟨hled, hcfg, -⟩ := tick_outside h
  refine ⟨hled, hcfg, fun hbit => tick_setLed hbit h, fun hbit => ?_⟩
  obtain ⟨b, hb, -⟩ := tick_cases (setLed m s)
  refine ⟨_, hb, ?_⟩
  rcases tick_bus h with ⟨hon, htrace, -⟩ | ⟨hoff, htrace, -⟩ <;>
    rcases tick_bus hb with ⟨hon', htrace', -⟩ | ⟨hoff', htrace', -⟩
  · exact absurd (hon'.trans hon.symm) hbit
  · rw [htrace, htrace']
    simp
  · rw [htrace, htrace']
    simp
  · exact absurd (hoff'.trans hoff.symm) hbit

end Sys2Proof.Machine

/-! 10_state.md, sections 1 and 5, and 40_tick.md, section 3: what every step keeps, and what is lit in every run (R20, R34,
R63, R65, R73, R104). -/

namespace Sys2Proof.Machine

/-! ## Counters by name -/

/-- A counter below 2 to its width, whichever it is; a missing `PD[i]` reads 0 (notes/assumptions/20.md). -/
theorem countersFit_iff (s : State) :
    CountersFit s ↔ s.pd.length = s.cfg.npat ∧ ∀ c, (readCounter c s).toNat < 2 ^ widthOf s.cfg c := by
  constructor
  · rintro ⟨hlen, hpd, hdeb0, hdeb1, hshut, hwake⟩
    refine ⟨hlen, fun c => ?_⟩
    cases c with
    | pd i =>
      rcases Nat.lt_or_ge i s.pd.length with hi | hi
      · have hread : readCounter (.pd i) s = s.pd[i] := by simp [readCounter, hi]
        rw [hread]
        exact hpd _ (List.getElem_mem hi)
      · have hread : readCounter (.pd i) s = 0 := by simp [readCounter, hi]
        rw [hread]
        exact Nat.two_pow_pos _
    | deb0 => exact hdeb0
    | deb1 => exact hdeb1
    | shut => exact hshut
    | wake => exact hwake
  · rintro ⟨hlen, hfit⟩
    refine ⟨hlen, fun x hx => ?_, hfit .deb0, hfit .deb1, hfit .shut, hfit .wake⟩
    obtain ⟨i, hi, rfl⟩ := List.getElem_of_mem hx
    simpa [readCounter, hi, widthOf] using hfit (.pd i)

theorem readCounter_of_sameBank {s t : State} (h : SameBank s t) (c : Counter) : readCounter c t = readCounter c s := by
  obtain ⟨hpd, hdeb0, hdeb1, hshut, hwake⟩ := h
  cases c <;> simp only [readCounter, hpd, hdeb0, hdeb1, hshut, hwake]

theorem writeCounter_pd_length (c : Counter) (v : Word32) (s : State) :
    (writeCounter c v s).pd.length = s.pd.length := by
  cases c with
  | pd i => exact List.length_set
  | deb0 | deb1 | shut | wake => rfl

/-- A countdown over a TICK: decremented, not below 0, from slot 7, and kept from any other slot (R68 to R70). -/
theorem tick_readCounter {s t : State} (h : exec .tick s = .next t) {c : Counter} (hc : c ≠ .wake) :
    readCounter c t = if s.cur = 7 then satdec (readCounter c s) else readCounter c s := by
  rcases tick_bank h with ⟨h7, hpd, hdeb0, hdeb1, hshut, -⟩ | ⟨h7, hbank⟩
  · rw [if_pos h7]
    cases c with
    | pd i =>
      simp only [readCounter, hpd, List.getD_eq_getElem?_getD, List.getElem?_map]
      cases s.pd[i]? <;> rfl
    | deb0 => exact hdeb0
    | deb1 => exact hdeb1
    | shut => exact hshut
    | wake => exact absurd rfl hc
  · rw [if_neg h7, readCounter_of_sameBank hbank]

/-- The wake clock over a TICK (R71). -/
theorem tick_wake {s t : State} (h : exec .tick s = .next t) :
    t.wake = if s.cur = 7 then incTo s.cfg.wWake s.wake else s.wake := by
  rcases tick_bank h with ⟨h7, -, -, -, -, hwake⟩ | ⟨h7, -, -, -, -, hwake⟩
  · rw [if_pos h7, hwake]
  · rw [if_neg h7, hwake]

theorem tick_pd_length {s t : State} (h : exec .tick s = .next t) : t.pd.length = s.pd.length := by
  rcases tick_bank h with ⟨-, hpd, -⟩ | ⟨-, hpd, -⟩ <;> simp [hpd]

/-! ## The counters keep their widths -/

theorem satdec_le (x : Word32) : (satdec x).toNat ≤ x.toNat := by
  rw [satdec_toNat]
  exact Nat.sub_le _ _

theorem tick_countersFit {s t : State} (h : exec .tick s = .next t) (hfit : CountersFit s) : CountersFit t := by
  obtain ⟨-, hcfg, -⟩ := tick_outside h
  rw [countersFit_iff] at hfit ⊢
  obtain ⟨hlen, hwidth⟩ := hfit
  rw [hcfg, tick_pd_length h]
  refine ⟨hlen, fun c => ?_⟩
  by_cases hc : c = .wake
  · subst hc
    show t.wake.toNat < _
    rw [tick_wake h]
    split
    · exact truncTo_fits _ _
    · exact hwidth .wake
  · rw [tick_readCounter h hc]
    split
    · exact Nat.lt_of_le_of_lt (satdec_le _) (hwidth c)
    · exact hwidth c

theorem writeCounter_countersFit {s : State} (hfit : CountersFit s) {c : Counter} {v : Word32}
    (hv : v.toNat < 2 ^ widthOf s.cfg c) : CountersFit (writeCounter c v s) := by
  obtain ⟨hlen, hpd, hdeb0, hdeb1, hshut, hwake⟩ := hfit
  cases c with
  | pd i =>
    refine ⟨List.length_set.trans hlen, fun x hx => ?_, hdeb0, hdeb1, hshut, hwake⟩
    rcases List.mem_or_eq_of_mem_set hx with hmem | rfl
    · exact hpd x hmem
    · exact hv
  | deb0 => exact ⟨hlen, hpd, hv, hdeb1, hshut, hwake⟩
  | deb1 => exact ⟨hlen, hpd, hdeb0, hv, hshut, hwake⟩
  | shut => exact ⟨hlen, hpd, hdeb0, hdeb1, hv, hwake⟩
  | wake => exact ⟨hlen, hpd, hdeb0, hdeb1, hshut, hv⟩

theorem resetWith_countersFit (c : Config) : CountersFit (State.resetWith c) := by
  have hpos (w : Nat) : (0 : Word32).toNat < 2 ^ w := Nat.two_pow_pos w
  refine ⟨List.length_replicate, fun x hx => ?_, hpos _, hpos _, hpos _, hpos _⟩
  rw [List.eq_of_mem_replicate hx]
  exact hpos _

theorem exec_countersFit {i : Instr} {s t : State} (h : exec i s = .next t) (hfit : CountersFit s) :
    CountersFit t := by
  cases i with
  | tick => exact tick_countersFit h hfit
  | reset => cases (exec_reset s).symm.trans h; exact resetWith_countersFit s.cfg
  | tmrWr sel v =>
    rcases tmrWr_cases sel v s with ⟨-, e⟩ | ⟨-, ⟨-, e⟩ | ⟨c, -, e⟩⟩ <;> cases e.symm.trans h
    exact writeCounter_countersFit (s := beginOp s) hfit (truncTo_fits _ _)
  | wakeClr =>
    cases (exec_wakeClr s).symm.trans h
    exact writeCounter_countersFit (s := beginOp s) (c := .wake) hfit (Nat.two_pow_pos _)
  | tmrRd sel =>
    rcases tmrRd_cases sel s with ⟨-, e⟩ | ⟨c, -, e⟩ <;> cases e.symm.trans h
    exact hfit
  | nop | ledSet _ | ledClr _ | ledWr _ | ledRd => cases h; exact hfit

/-! ## The bus stays one the block can leave -/

/-- What a TICK leaves on the bus: the baseline, or the row of the slot its cursor has just left (R63, R65). -/
theorem tick_busHeld {s t : State} (h : exec .tick s = .next t) : BusHeld t := by
  obtain ⟨-, hcfg, -, -, -, hcur⟩ := tick_outside h
  rcases tick_bus h with ⟨-, -, hdir, hlvl⟩ | ⟨-, -, hdir, hlvl⟩
  · refine .inr (.inr ?_)
    rw [busNow, hdir, hlvl, hcfg, hcur, BitVec.add_sub_cancel]
  · refine .inr (.inl ?_)
    rw [busNow, hdir, hlvl]

theorem exec_busHeld {i : Instr} {s t : State} (h : exec i s = .next t) (hbus : BusHeld s) : BusHeld t := by
  cases hi : isHostCommand i with
  | true =>
    obtain ⟨hcur, hdir, hlvl⟩ := hostCommand_driver hi h
    obtain ⟨hcfg, -⟩ := exec_environment h
    simpa only [BusHeld, busNow, hcur, hdir, hlvl, hcfg] using hbus
  | false =>
    cases i with
    | tick => exact tick_busHeld h
    | reset => cases (exec_reset s).symm.trans h; exact .inl rfl
    | nop | ledSet _ | ledClr _ | ledWr _ | ledRd | tmrWr _ _ | tmrRd _ | wakeClr => cases hi

/-! ## Legal states -/

theorem exec_legal {i : Instr} {s t : State} (h : exec i s = .next t) (hs : Legal s) : Legal t ∧ t.cfg = s.cfg := by
  obtain ⟨hwf, hfit, hbus⟩ := hs
  obtain ⟨hcfg, -⟩ := exec_environment h
  exact ⟨⟨hcfg ▸ hwf, exec_countersFit h hfit, exec_busHeld h hbus⟩, hcfg⟩

/-- All that a step that answers can do: begin an operation and do nothing, or perform one operation, on the state with
less presented. -/
theorem step_next_cases {s t : State} (h : step s = .next t) :
    ∃ l n, t = beginOp { s with inputs := l, choices := n } ∨
      ∃ i, exec i { s with inputs := l, choices := n } = .next t := by
  obtain ⟨l, n, hrest⟩ := fetch_rest s
  refine ⟨l, n, ?_⟩
  cases hwf : configWf s.cfg with
  | false =>
    obtain ⟨k, -, e⟩ := step_of_not_wf hwf
    cases e.symm.trans h
  | true =>
    rw [step_of_wf hwf, hrest] at h
    split at h
    · cases h
      exact .inl rfl
    next w _ =>
      cases hd : decodeWord s.cfg.npat w with
      | op i => rw [hd] at h; exact .inr ⟨i, h⟩
      | nothing => rw [hd] at h; cases h; exact .inl rfl
      | rejected j => rw [hd] at h; cases h

/-- Settles O36: what is presented is no part of `Legal`, and every operation keeps it. -/
theorem legalStatesAreKept : Obligations.LegalStatesAreKept := by
  intro s t hs h
  obtain ⟨l, n, rfl | ⟨i, hi⟩⟩ := step_next_cases h
  · exact ⟨hs, rfl⟩
  · exact exec_legal (s := { s with inputs := l, choices := n }) hi hs

theorem resetWith_legal {c : Config} (hwf : configWf c = true) : Legal (State.resetWith c) :=
  ⟨hwf, resetWith_countersFit c, .inl rfl⟩

/-- Settles O37. The launch state's configuration passes its checks by evaluation. -/
theorem resetStatesAreLegal : Obligations.ResetStatesAreLegal :=
  ⟨fun _ hwf => resetWith_legal hwf, resetWith_legal (by decide)⟩

/-! ## At most one LED -/

theorem hostCommand_pinTrace {i : Instr} {s t : State} (hi : isHostCommand i = true) (h : exec i s = .next t) :
    t.pinTrace = [] := by
  cases i with
  | tmrWr sel v =>
    rcases tmrWr_cases sel v s with ⟨-, e⟩ | ⟨-, ⟨-, e⟩ | ⟨c, -, e⟩⟩ <;> cases e.symm.trans h
    obtain ⟨-, -, -, -, -, htrace, -⟩ := writeCounter_outside c (truncTo (widthOf s.cfg c) v) (beginOp s)
    exact htrace
  | tmrRd sel =>
    rcases tmrRd_cases sel s with ⟨-, e⟩ | ⟨c, -, e⟩ <;> cases e.symm.trans h
    rfl
  | nop | ledSet _ | ledClr _ | ledWr _ | ledRd | wakeClr => cases h; rfl
  | tick | reset => cases hi

theorem tick_atMostOneLit {s t : State} (hwf : configWf s.cfg = true) (h : exec .tick s = .next t) :
    AtMostOneLit s.cfg t.pinTrace := by
  intro p hp
  rcases tick_snapshot_lit hwf h hp with e | ⟨-, e⟩ <;> simp [e]

theorem exec_atMostOneLit {i : Instr} {s t : State} (hwf : configWf s.cfg = true) (h : exec i s = .next t) :
    AtMostOneLit s.cfg t.pinTrace := by
  cases hi : isHostCommand i with
  | true =>
    rw [hostCommand_pinTrace hi h]
    exact fun p hp => absurd hp List.not_mem_nil
  | false =>
    cases i with
    | tick => exact tick_atMostOneLit hwf h
    | reset =>
      cases (exec_reset s).symm.trans h
      intro p hp
      rw [List.mem_singleton.mp hp, litBy, lit_of_levels_low]
      exact Nat.zero_le 1
    | nop | ledSet _ | ledClr _ | ledWr _ | ledRd | tmrWr _ _ | tmrRd _ | wakeClr => cases hi

theorem step_atMostOneLit {s t : State} (hwf : configWf s.cfg = true) (h : step s = .next t) :
    AtMostOneLit s.cfg t.pinTrace := by
  obtain ⟨l, n, rfl | ⟨i, hi⟩⟩ := step_next_cases h
  · exact fun p hp => absurd hp List.not_mem_nil
  · exact exec_atMostOneLit (s := { s with inputs := l, choices := n }) hwf hi

/-- A bus that stands in a legal state lights no LED, or the one of the slot before the cursor. -/
theorem lit_of_legal {s : State} (hs : Legal s) :
    litBy s.cfg (busNow s) = [] ∨ litBy s.cfg (busNow s) = [s.cur - 1] := by
  obtain ⟨hwf, -, e | e | e⟩ := hs <;> rw [e]
  · exact .inl (lit_of_levels_low _ _)
  · exact .inl (lit_of_levels_low _ _)
  · exact .inr (lit_row hwf _)

/-- One more step of a run that answers answered itself. -/
theorem run_succ_next {n : Nat} {s t : State} (h : Host.Core.run Sys2Proof.core (n + 1) s = .next t) :
    ∃ u, step s = .next u ∧ Host.Core.run Sys2Proof.core n u = .next t := by
  cases hs : step s with
  | next u => exact ⟨u, rfl, (run_succ hs).symm.trans h⟩
  | fault f => cases f
  | refused r =>
    have hs' : Sys2Proof.core.step s = .refused r := hs
    simp only [Host.Core.run, hs'] at h
    cases h

/-- Settles O38, by induction on the number of steps: every step keeps `Legal` (O36) and leaves a trace with at most one
LED lit. -/
theorem atMostOneLedIsLitInEveryRun : Obligations.AtMostOneLedIsLitInEveryRun := by
  intro n
  induction n with
  | zero =>
    intro s t hs htrace h
    cases h
    exact ⟨htrace, lit_of_legal hs⟩
  | succ n ih =>
    intro s t hs _ h
    obtain ⟨u, hstep, hrun⟩ := run_succ_next h
    obtain ⟨hu, hcfg⟩ := legalStatesAreKept s u hs hstep
    obtain ⟨hwf, -⟩ := hs
    exact ih u t hu (hcfg ▸ step_atMostOneLit hwf hstep) hrun

end Sys2Proof.Machine

/-! 41_led_port.md and 42_timer_port.md: what the host's writes leave and its reads return (R78 to R80, R82 to R84). -/

namespace Sys2Proof.Machine

/-! ## Counters and the outputs -/

/-- Beginning an operation touches no counter. -/
@[simp] theorem readCounter_beginOp (c : Counter) (s : State) : readCounter c (beginOp s) = readCounter c s := by
  cases c <;> rfl

/-- A value on `DOUT` is no counter. -/
@[simp] theorem readCounter_deliver (c : Counter) (v : Word32) (s : State) :
    readCounter c (deliver v s) = readCounter c s := by
  cases c <;> rfl

/-! ## The LED commands -/

/-- Settles O17: bit by bit by `setLed_bit`. -/
theorem ledSetSetsExactlyItsBit : Obligations.LedSetSetsExactlyItsBit :=
  fun s k => ⟨setLed (s.led ||| slotMask k) (beginOp s), rfl, setLed_bit s.led k, ⟨rfl, rfl, rfl⟩,
    ⟨rfl, rfl, rfl, rfl, rfl⟩, ⟨rfl, rfl, rfl⟩, rfl, rfl⟩

/-- Settles O18: bit by bit by `clrLed_bit`. -/
theorem ledClrClearsExactlyItsBit : Obligations.LedClrClearsExactlyItsBit :=
  fun s k => ⟨setLed (s.led &&& ~~~slotMask k) (beginOp s), rfl, clrLed_bit s.led k, ⟨rfl, rfl, rfl⟩,
    ⟨rfl, rfl, rfl, rfl, rfl⟩, ⟨rfl, rfl, rfl⟩, rfl, rfl⟩

/-- Settles O19: LED.WR is one write to the bitmask. -/
theorem ledWrReplacesTheMask : Obligations.LedWrReplacesTheMask :=
  fun s m => ⟨setLed m (beginOp s), rfl, rfl, ⟨rfl, rfl, rfl⟩, ⟨rfl, rfl, rfl, rfl, rfl⟩, ⟨rfl, rfl, rfl⟩, rfl, rfl⟩

/-! ## The timer commands on a given selector -/

theorem exec_tmrWr_wake (v : Word32) (s : State) : exec (.tmrWr 0xF v) s = .refused .wakeNotWritable := rfl

theorem exec_tmrWr_of_selected {sel : Selector} {s : State} {c : Counter} (hne : sel ≠ 0xF)
    (hsel : selected s.cfg.npat sel = some c) (v : Word32) :
    exec (.tmrWr sel v) s = .next (writeCounter c (truncTo (widthOf s.cfg c) v) (beginOp s)) := by
  rcases tmrWr_cases sel v s with ⟨hF, -⟩ | ⟨-, ⟨hnone, -⟩ | ⟨d, hd, e⟩⟩
  · exact absurd hF hne
  · cases hnone.symm.trans hsel
  · cases hd.symm.trans hsel
    exact e

theorem exec_tmrWr_of_reserved {sel : Selector} {s : State} (hne : sel ≠ 0xF)
    (hsel : selected s.cfg.npat sel = none) (v : Word32) :
    exec (.tmrWr sel v) s = .refused (.reservedSelector sel) := by
  rcases tmrWr_cases sel v s with ⟨hF, -⟩ | ⟨-, ⟨-, e⟩ | ⟨d, hd, -⟩⟩
  · exact absurd hF hne
  · exact e
  · cases hsel.symm.trans hd

theorem exec_tmrRd_of_selected {sel : Selector} {s : State} {c : Counter} (hsel : selected s.cfg.npat sel = some c) :
    exec (.tmrRd sel) s = .next (deliver (readCounter c s) (beginOp s)) := by
  rcases tmrRd_cases sel s with ⟨hnone, -⟩ | ⟨d, hd, e⟩
  · cases hnone.symm.trans hsel
  · cases hd.symm.trans hsel
    exact e

theorem exec_tmrRd_of_reserved {sel : Selector} {s : State} (hsel : selected s.cfg.npat sel = none) :
    exec (.tmrRd sel) s = .refused (.reservedSelector sel) := by
  rcases tmrRd_cases sel s with ⟨-, e⟩ | ⟨d, hd, -⟩
  · exact e
  · cases hsel.symm.trans hd

/-! ## TMR.WR -/

theorem ne_wakeSelector_of_lt {npat : Nat} (hnpat : npat ≤ 12) {sel : Selector} (h : sel.toNat < npat) : sel ≠ 0xF := by
  rintro rfl
  exact absurd (Nat.lt_of_lt_of_le h hnpat) (by decide)

/-- Settles O22: the selector names one counter, and the write goes there cut to its width. -/
theorem tmrWrArmsTheSelectedCountdown : Obligations.TmrWrArmsTheSelectedCountdown := by
  intro s sel v hnpat hlen
  refine ⟨fun hsel => ?_, ?_, ?_, ?_⟩
  · have hin : sel.toNat < s.pd.length := hlen ▸ hsel
    refine ⟨_, exec_tmrWr_of_selected (ne_wakeSelector_of_lt hnpat hsel) (selected_pd hsel) v,
      ⟨truncTo s.cfg.wPd v, List.getElem?_set_self hin, truncTo_toNat _ _, List.length_set, fun j hj => ?_⟩, rfl, rfl,
      rfl, rfl, rfl, ⟨rfl, rfl, rfl⟩, ⟨rfl, rfl, rfl⟩, rfl, rfl⟩
    exact List.getElem?_set_ne hj.symm
  · rintro rfl
    exact ⟨_, exec_tmrWr_of_selected (by decide) (selected_deb0 hnpat) v, truncTo_toNat _ _, rfl, rfl, rfl, rfl, rfl,
      ⟨rfl, rfl, rfl⟩, ⟨rfl, rfl, rfl⟩, rfl, rfl⟩
  · rintro rfl
    exact ⟨_, exec_tmrWr_of_selected (by decide) (selected_deb1 hnpat) v, truncTo_toNat _ _, rfl, rfl, rfl, rfl, rfl,
      ⟨rfl, rfl, rfl⟩, ⟨rfl, rfl, rfl⟩, rfl, rfl⟩
  · rintro rfl
    exact ⟨_, exec_tmrWr_of_selected (by decide) (selected_shut hnpat) v, truncTo_toNat _ _, rfl, rfl, rfl, rfl, rfl,
      ⟨rfl, rfl, rfl⟩, ⟨rfl, rfl, rfl⟩, rfl, rfl⟩

/-- Settles O23: WAKE's selector is refused first; a reserved selector names no counter. -/
theorem tmrWrStopsOnWakeAndReservedSelectors : Obligations.TmrWrStopsOnWakeAndReservedSelectors := by
  intro s sel v _
  refine ⟨?_, fun hge hle => ?_⟩
  · rintro rfl
    exact exec_tmrWr_wake v s
  · have hne : sel ≠ 0xF := by bv_omega
    exact exec_tmrWr_of_reserved hne ((selected_eq_none_iff _ _).mpr ⟨hge, hle⟩) v

/-! ## TMR.RD -/

/-- What TMR.RD of a named counter leaves and returns. -/
theorem tmrRd_returns {sel : Selector} {s : State} {c : Counter} (hsel : selected s.cfg.npat sel = some c) :
    ∃ t, exec (.tmrRd sel) s = .next t ∧ SameBlock s t ∧ Returned (readCounter c s) t :=
  ⟨_, exec_tmrRd_of_selected hsel, deliver_sameBlock _ s, rfl, rfl⟩

/-- Settles O24: each selector names its counter, and `tmrRd_returns` says the rest. -/
theorem tmrRdReturnsTheSelectedCounter : Obligations.TmrRdReturnsTheSelectedCounter := by
  intro s sel hnpat _
  refine ⟨fun x hsel hx => ?_, ?_, ?_, ?_, ?_, fun hge hle => ?_⟩
  · have hread : readCounter (.pd sel.toNat) s = x := by
      rw [readCounter, List.getD_eq_getElem?_getD, hx, Option.getD_some]
    rw [← hread]
    exact tmrRd_returns (selected_pd hsel)
  · rintro rfl
    exact tmrRd_returns (selected_deb0 hnpat)
  · rintro rfl
    exact tmrRd_returns (selected_deb1 hnpat)
  · rintro rfl
    exact tmrRd_returns (selected_shut hnpat)
  · rintro rfl
    exact tmrRd_returns (selected_wake hnpat)
  · exact exec_tmrRd_of_reserved ((selected_eq_none_iff _ _).mpr ⟨hge, hle⟩)

/-! ## TMR.RD after TMR.WR -/

/-- The selector of a counter (R39). -/
def selectorOf : Counter → Selector
  | .pd i => BitVec.ofNat 4 i
  | .deb0 => 0xC
  | .deb1 => 0xD
  | .shut => 0xE
  | .wake => 0xF

theorem selectorOf_of_selected {npat : Nat} {sel : Selector} {c : Counter} (h : selected npat sel = some c) :
    selectorOf c = sel := by
  rcases selected_cases npat sel with ⟨-, e⟩ | ⟨-, ⟨hs, e⟩ | ⟨hs, e⟩ | ⟨hs, e⟩ | ⟨hs, e⟩ | ⟨-, e⟩⟩ <;>
    cases e.symm.trans h
  · simp [selectorOf]
  all_goals exact hs.symm

/-- Two selectors name two counters (R39). -/
theorem selected_inj {npat : Nat} {a b : Selector} {c : Counter} (ha : selected npat a = some c)
    (hb : selected npat b = some c) : a = b :=
  (selectorOf_of_selected ha).symm.trans (selectorOf_of_selected hb)

/-- A counter just written through a selector reads as the value cut to its width. -/
theorem readCounter_tmrWr {s t : State} {sel : Selector} {v : Word32} {c : Counter} (hfit : CountersFit s)
    (h : exec (.tmrWr sel v) s = .next t) (hsel : selected s.cfg.npat sel = some c) :
    c ≠ .wake ∧ readCounter c t = truncTo (widthOf s.cfg c) v := by
  rcases tmrWr_cases sel v s with ⟨-, e⟩ | ⟨hne, ⟨-, e⟩ | ⟨d, hd, e⟩⟩ <;> cases e.symm.trans h
  cases hd.symm.trans hsel
  refine ⟨?_, readCounter_writeCounter_same _ _ _ ?_⟩
  · rintro rfl
    exact hne (eq_of_selected_wake hsel)
  · rintro i rfl
    exact Nat.lt_of_lt_of_eq (selected_pd_lt hsel) hfit.1.symm

/-- Settles O25: the read finds the written counter, or, by `selected_inj`, another one. -/
theorem tmrRdAfterTmrWr : Obligations.TmrRdAfterTmrWr := by
  rintro s t a b v ⟨-, hfit, -⟩ h hb
  obtain ⟨hcfg, -⟩ := exec_environment h
  obtain ⟨c, ha, e⟩ : ∃ c, selected s.cfg.npat a = some c ∧
      t = writeCounter c (truncTo (widthOf s.cfg c) v) (beginOp s) := by
    rcases tmrWr_cases a v s with ⟨-, e⟩ | ⟨-, ⟨-, e⟩ | ⟨c, ha, e⟩⟩ <;> cases e.symm.trans h
    exact ⟨c, ha, rfl⟩
  obtain ⟨d, hd⟩ : ∃ d, selected s.cfg.npat b = some d := by
    rcases hb with rfl | hlegal
    · exact ⟨c, ha⟩
    · rw [tmrRdLegal_iff_not_reserved, ← selected_eq_none_iff] at hlegal
      exact Option.ne_none_iff_exists'.mp hlegal
  have hd' : selected t.cfg.npat b = some d := hcfg ▸ hd
  refine ⟨_, _, exec_tmrRd_of_selected hd', exec_tmrRd_of_selected hd, ?_, fun hne => ?_⟩
  · rintro rfl
    refine ⟨d, hd, _, rfl, ?_⟩
    rw [(readCounter_tmrWr hfit h hd).2, truncTo_toNat]
  · have hdc : d ≠ c := by
      rintro rfl
      exact hne (selected_inj hd ha)
    rw [deliver_dout, deliver_dout, e, readCounter_writeCounter_other hdc, readCounter_beginOp]

/-! ## Writes and reads done twice -/

theorem writeCounter_twice (c : Counter) (v : Word32) (s : State) :
    writeCounter c v (beginOp (writeCounter c v (beginOp s))) = writeCounter c v (beginOp s) := by
  cases c with
  | pd i => simp [writeCounter, beginOp]
  | deb0 | deb1 | shut | wake => rfl

theorem hostCommand_idempotent {i : Instr} {s t : State} (hi : isHostCommand i = true) (h : exec i s = .next t) :
    exec i t = .next t := by
  cases i with
  | nop | ledWr _ | ledRd | wakeClr => cases h; rfl
  | ledSet k =>
    cases h
    show Host.Outcome.next (setLed (s.led ||| slotMask k ||| slotMask k) (beginOp s)) = _
    rw [BitVec.or_assoc, BitVec.or_self]
  | ledClr k =>
    cases h
    show Host.Outcome.next (setLed (s.led &&& ~~~slotMask k &&& ~~~slotMask k) (beginOp s)) = _
    rw [BitVec.and_assoc, BitVec.and_self]
  | tmrWr sel v =>
    rcases tmrWr_cases sel v s with ⟨-, e⟩ | ⟨hne, ⟨-, e⟩ | ⟨c, hsel, e⟩⟩ <;> cases e.symm.trans h
    obtain ⟨hcfg, -⟩ := exec_environment h
    rw [exec_tmrWr_of_selected hne (hcfg ▸ hsel), hcfg, writeCounter_twice]
  | tmrRd sel =>
    rcases tmrRd_cases sel s with ⟨-, e⟩ | ⟨c, hsel, e⟩ <;> cases e.symm.trans h
    have hagain := exec_tmrRd_of_selected (s := deliver (readCounter c s) (beginOp s)) hsel
    rw [hagain, readCounter_deliver, readCounter_beginOp]
    rfl
  | tick | reset => cases hi

/-- Settles O27: a host command done again writes what already stands there; a TICK always moves the cursor. -/
theorem writesAreIdempotentAndReadsRepeat : Obligations.WritesAreIdempotentAndReadsRepeat := by
  refine ⟨fun i s t hi h => hostCommand_idempotent hi h, fun s t _ u hu => ?_⟩
  obtain ⟨-, -, -, -, -, hcur⟩ := tick_outside hu
  rw [hcur]
  bv_omega

end Sys2Proof.Machine

/-! 10_state.md, section 7, and 92_eei_decisions.md D19, D20: who writes each element, and what no operation reads (R34,
R35, R101, R115). -/

namespace Sys2Proof.Machine

/-! ## Writers -/

theorem event_of_not_hostCommand {i : Instr} (h : isHostCommand i ≠ true) : i = .tick ∨ i = .reset := by
  cases i with
  | tick => exact .inl rfl
  | reset => exact .inr rfl
  | nop | ledSet _ | ledClr _ | ledWr _ | ledRd | tmrWr _ _ | tmrRd _ | wakeClr => exact absurd rfl h

/-- No host command but TMR.WR writes a countdown. -/
theorem hostCommand_countdowns {i : Instr} {s t : State} (hi : isHostCommand i = true)
    (hne : ∀ sel v, i ≠ .tmrWr sel v) (h : exec i s = .next t) :
    t.pd = s.pd ∧ t.deb0 = s.deb0 ∧ t.deb1 = s.deb1 ∧ t.shut = s.shut := by
  cases i with
  | tmrWr sel v => exact absurd rfl (hne sel v)
  | tmrRd sel =>
    rcases tmrRd_cases sel s with ⟨-, e⟩ | ⟨c, -, e⟩ <;> cases e.symm.trans h
    exact ⟨rfl, rfl, rfl, rfl⟩
  | nop | ledSet _ | ledClr _ | ledWr _ | ledRd | wakeClr => cases h; exact ⟨rfl, rfl, rfl, rfl⟩
  | tick | reset => cases hi

/-- Only the two reads return a value (R52). -/
theorem exec_dout {i : Instr} {s t : State} (h : exec i s = .next t) (hled : i ≠ .ledRd) (htmr : ∀ sel, i ≠ .tmrRd sel) :
    t.dout = none := by
  cases i with
  | tick =>
    obtain ⟨-, -, -, -, hdout, -⟩ := tick_outside h
    exact hdout
  | tmrWr sel v =>
    rcases tmrWr_cases sel v s with ⟨-, e⟩ | ⟨-, ⟨-, e⟩ | ⟨c, -, e⟩⟩ <;> cases e.symm.trans h
    obtain ⟨-, -, -, -, -, -, hdout, -⟩ := writeCounter_outside c (truncTo (widthOf s.cfg c) v) (beginOp s)
    exact hdout
  | ledRd => exact absurd rfl hled
  | tmrRd sel => exact absurd rfl (htmr sel)
  | nop | ledSet _ | ledClr _ | ledWr _ | wakeClr | reset => cases h; rfl

/-- Settles O39: each clause is the contraposition of what the other operations leave. The bound on `NPAT` is not
needed. -/
theorem onlyTheOwnersWriteEachElement : Obligations.OnlyTheOwnersWriteEachElement := by
  intro i s t _ h
  obtain ⟨hcfg, -⟩ := exec_environment h
  refine ⟨hcfg, fun hled => ?_, fun hdriver => ?_, fun hcount => ?_, fun hwake => ?_, fun htrace => ?_, fun hdout => ?_⟩
  · rw [exec_led h] at hled
    exact eq_ledWriter_of_ledAfter_ne hled
  · exact event_of_not_hostCommand fun hi => hdriver (hostCommand_driver hi h)
  · by_contra hno
    obtain ⟨hwr, hevent⟩ := not_or.mp hno
    have hi : isHostCommand i = true := by_contra fun hi => hevent (event_of_not_hostCommand hi)
    obtain ⟨hpd, hdeb0, hdeb1, hshut⟩ := hostCommand_countdowns hi (fun sel v e => hwr ⟨sel, v, e⟩) h
    rcases hcount with hne | hne | hne | hne
    · exact hne hpd
    · exact hne hdeb0
    · exact hne hdeb1
    · exact hne hshut
  · by_cases hclr : i = .wakeClr
    · exact .inr (.inl hclr)
    · have hevent := event_of_not_hostCommand fun hi => hwake (hostCommand_wake hi hclr h)
      exact hevent.imp_right .inr
  · exact event_of_not_hostCommand fun hi => htrace (hostCommand_pinTrace hi h)
  · by_contra hno
    obtain ⟨hled, htmr⟩ := not_or.mp hno
    exact hdout (exec_dout h hled fun sel e => htmr ⟨sel, e⟩)

/-! ## What the host cannot see -/

theorem widthOf_of_samePort {c d : Config} (h : SamePort c d) (x : Counter) : widthOf d x = widthOf c x := by
  obtain ⟨-, hpd, hdeb, hshut, hwake⟩ := h
  cases x <;> simp only [widthOf, hpd, hdeb, hshut, hwake]

theorem hostEqual_beginOp {s t : State} (h : HostEqual s t) : HostEqual (beginOp s) (beginOp t) := by
  obtain ⟨hport, hled, hbank, -⟩ := h
  exact ⟨hport, hled, hbank, rfl⟩

theorem hostEqual_setLed {s t : State} (m : LedMask) (h : HostEqual s t) : HostEqual (setLed m s) (setLed m t) := by
  obtain ⟨hport, -, hbank, hdout⟩ := h
  exact ⟨hport, rfl, hbank, hdout⟩

theorem hostEqual_deliver {s t : State} (v : Word32) (h : HostEqual s t) : HostEqual (deliver v s) (deliver v t) := by
  obtain ⟨hport, hled, hbank, -⟩ := h
  exact ⟨hport, hled, hbank, rfl⟩

theorem hostEqual_writeCounter {s t : State} (c : Counter) (v : Word32) (h : HostEqual s t) :
    HostEqual (writeCounter c v s) (writeCounter c v t) := by
  obtain ⟨hport, hled, ⟨hpd, hdeb0, hdeb1, hshut, hwake⟩, hdout⟩ := h
  cases c with
  | pd i => exact ⟨hport, hled, ⟨congrArg (List.set · i v) hpd, hdeb0, hdeb1, hshut, hwake⟩, hdout⟩
  | deb0 => exact ⟨hport, hled, ⟨hpd, rfl, hdeb1, hshut, hwake⟩, hdout⟩
  | deb1 => exact ⟨hport, hled, ⟨hpd, hdeb0, rfl, hshut, hwake⟩, hdout⟩
  | shut => exact ⟨hport, hled, ⟨hpd, hdeb0, hdeb1, rfl, hwake⟩, hdout⟩
  | wake => exact ⟨hport, hled, ⟨hpd, hdeb0, hdeb1, hshut, rfl⟩, hdout⟩

/-- Settles O40: each host command is made of operations that keep `HostEqual`, and what it reads is the same in both
states. -/
theorem theHostCannotSeeTheDriver : Obligations.TheHostCannotSeeTheDriver := by
  intro i s t hi heq
  have hbegin := hostEqual_beginOp heq
  obtain ⟨hport, hled, hbank, -⟩ := heq
  have hnpat : t.cfg.npat = s.cfg.npat := hport.1
  cases i with
  | nop => exact ⟨_, rfl, hbegin⟩
  | ledSet k => exact ⟨setLed (s.led ||| slotMask k) (beginOp t), by rw [← hled]; rfl, hostEqual_setLed _ hbegin⟩
  | ledClr k => exact ⟨setLed (s.led &&& ~~~slotMask k) (beginOp t), by rw [← hled]; rfl, hostEqual_setLed _ hbegin⟩
  | ledWr m => exact ⟨_, rfl, hostEqual_setLed m hbegin⟩
  | ledRd => exact ⟨deliver (zextLed s.led) (beginOp t), by rw [← hled]; rfl, hostEqual_deliver _ hbegin⟩
  | wakeClr => exact ⟨_, rfl, hostEqual_writeCounter .wake 0 hbegin⟩
  | tmrWr sel v =>
    rcases tmrWr_cases sel v s with ⟨rfl, e⟩ | ⟨hne, ⟨hsel, e⟩ | ⟨c, hsel, e⟩⟩ <;> rw [e]
    · exact exec_tmrWr_wake v t
    · exact exec_tmrWr_of_reserved hne (hnpat ▸ hsel) v
    · refine ⟨_, exec_tmrWr_of_selected hne (hnpat ▸ hsel) v, ?_⟩
      rw [widthOf_of_samePort hport]
      exact hostEqual_writeCounter c _ hbegin
  | tmrRd sel =>
    rcases tmrRd_cases sel s with ⟨hsel, e⟩ | ⟨c, hsel, e⟩ <;> rw [e]
    · exact exec_tmrRd_of_reserved (hnpat ▸ hsel)
    · refine ⟨_, exec_tmrRd_of_selected (hnpat ▸ hsel), ?_⟩
      rw [readCounter_of_sameBank hbank]
      exact hostEqual_deliver _ hbegin
  | tick | reset => cases hi

/-! ## What no step reads -/

section
variable (period : Nat) (sleepTicks : Bool)

theorem failedCheck_withEnvironment (s : State) :
    failedCheck (withEnvironment period sleepTicks s).cfg = failedCheck s.cfg := by
  have hpasses : ∀ k, passes (withEnvironment period sleepTicks s).cfg k = passes s.cfg k := fun k => by
    cases k <;> rfl
  simp only [failedCheck, hpasses]

theorem fetch_withEnvironment (s : State) :
    fetch (withEnvironment period sleepTicks s) =
      ⟨(fetch s).word, withEnvironment period sleepTicks (fetch s).rest⟩ := by
  have hin : (withEnvironment period sleepTicks s).inputs = s.inputs := rfl
  unfold fetch
  rw [hin]
  rcases s.inputs with _ | ⟨⟨ev, _ | c⟩, later⟩
  · rfl
  · rfl
  · dsimp only
    split_ifs
    · rfl
    · rfl
    · by_cases hfirst : Config.eventFirst s.choices = true
      · rw [fetchEither, fetchEither, if_pos hfirst]
        exact if_pos hfirst
      · rw [fetchEither, fetchEither, if_neg hfirst]
        exact if_neg hfirst

theorem applyRow_withEnvironment (k : Slot) (s : State) :
    applyRow k (withEnvironment period sleepTicks s) = withEnvironment period sleepTicks (applyRow k s) := by
  rw [applyRow, applyRow, apply_ite (withEnvironment period sleepTicks)]
  rfl

theorem writeCounter_withEnvironment (c : Counter) (v : Word32) (s : State) :
    writeCounter c v (withEnvironment period sleepTicks s) =
      withEnvironment period sleepTicks (writeCounter c v s) := by
  cases c <;> rfl

theorem readCounter_withEnvironment (c : Counter) (s : State) :
    readCounter c (withEnvironment period sleepTicks s) = readCounter c s := by
  cases c <;> rfl

theorem exec_withEnvironment (i : Instr) (s : State) :
    exec i (withEnvironment period sleepTicks s) = mapNext (withEnvironment period sleepTicks) (exec i s) := by
  cases i with
  | tick =>
    show Host.Outcome.next (advance (applyRow s.cur (withEnvironment period sleepTicks (baseline (beginOp s))))) = _
    rw [applyRow_withEnvironment, advance_comm (f := withEnvironment period sleepTicks) (fun _ => rfl)
      (fun _ _ => rfl) (fun _ => rfl)]
    rfl
  | tmrWr sel v =>
    rcases tmrWr_cases sel v s with ⟨rfl, e⟩ | ⟨hne, ⟨hsel, e⟩ | ⟨c, hsel, e⟩⟩ <;> rw [e]
    · rfl
    · exact exec_tmrWr_of_reserved (s := withEnvironment period sleepTicks s) hne hsel v
    · rw [exec_tmrWr_of_selected (s := withEnvironment period sleepTicks s) hne hsel]
      exact congrArg Host.Outcome.next (writeCounter_withEnvironment period sleepTicks c _ (beginOp s))
  | tmrRd sel =>
    rcases tmrRd_cases sel s with ⟨hsel, e⟩ | ⟨c, hsel, e⟩ <;> rw [e]
    · exact exec_tmrRd_of_reserved (s := withEnvironment period sleepTicks s) hsel
    · rw [exec_tmrRd_of_selected (s := withEnvironment period sleepTicks s) hsel, readCounter_withEnvironment]
      rfl
  | nop | ledSet _ | ledClr _ | ledWr _ | ledRd | wakeClr | reset => rfl

theorem perform_withEnvironment (d : Decoded) (s : State) :
    perform d (withEnvironment period sleepTicks s) = mapNext (withEnvironment period sleepTicks) (perform d s) := by
  cases d with
  | op i => exact exec_withEnvironment period sleepTicks i s
  | nothing | rejected r => rfl

end

/-- Settles O41: the checks, the fetch, the decoder and every operation commute with a change of the two parameters. -/
theorem stepsIgnoreTheEnvironmentParameters : Obligations.StepsIgnoreTheEnvironmentParameters := by
  intro s period sleepTicks
  rw [step, step, failedCheck_withEnvironment, fetch_withEnvironment]
  cases failedCheck s.cfg with
  | some k => rfl
  | none =>
    cases (fetch s).word with
    | none => rfl
    | some w => exact perform_withEnvironment period sleepTicks (decodeWord s.cfg.npat w) (fetch s).rest

end Sys2Proof.Machine

/-! 40_tick.md, sections 2 and 3, and 70_reset_and_hazards.md, section 2: TICKs in sequence, counted from any state (R66 to
R71, R75, R107 to R111). -/

namespace Sys2Proof.Machine

/-! ## What a run of TICKs makes of a state -/

/-- One more TICK at the end of a run of TICKs. -/
theorem afterTicks_succ_last {n : Nat} {s u v : State} (hwf : configWf s.cfg = true)
    (hrun : afterTicks n s = .next u) (hlast : exec .tick u = .next v) : afterTicks (n + 1) s = .next v := by
  induction n generalizing s with
  | zero =>
    cases hrun
    exact afterTicks_succ hwf hlast
  | succ n ih =>
    obtain ⟨b, hfirst, -⟩ := tick_cases s
    obtain ⟨-, hcfg, -⟩ := tick_outside hfirst
    rw [afterTicks_succ hwf hfirst] at hrun ⊢
    exact ih (hcfg ▸ hwf) hrun

/-- `u` is `s` after n TICKs, so far as the bitmask, the cursor and the countdowns go: the slots passed are counted from
slot 0, so their eighth part is the number of epochs. -/
structure TickedFrom (s : State) (n : Nat) (u : State) : Prop where
  cfg : u.cfg = s.cfg
  led : u.led = s.led
  cur : u.cur.toNat = (s.cur.toNat + n) % 8
  pd_length : u.pd.length = s.pd.length
  countdown : ∀ c, c ≠ .wake → (readCounter c u).toNat = (readCounter c s).toNat - (s.cur.toNat + n) / 8

theorem TickedFrom.zero (s : State) : TickedFrom s 0 s where
  cfg := rfl
  led := rfl
  cur := (Nat.mod_eq_of_lt s.cur.isLt).symm
  pd_length := rfl
  countdown _ _ := by rw [Nat.add_zero, Nat.div_eq_of_lt s.cur.isLt, Nat.sub_zero]

/-- Whether a TICK is an epoch TICK, by the number of slots passed (R67). -/
theorem TickedFrom.cur_eq_seven_iff {s u : State} {n : Nat} (h : TickedFrom s n u) :
    u.cur = 7 ↔ (s.cur.toNat + n) % 8 = 7 := by
  rw [← h.cur, ← BitVec.toNat_inj]
  rfl

theorem TickedFrom.tick {s u v : State} {n : Nat} (h : TickedFrom s n u) (htick : exec .tick u = .next v) :
    TickedFrom s (n + 1) v := by
  obtain ⟨hled, hcfg, -, -, -, hcur⟩ := tick_outside htick
  refine ⟨hcfg.trans h.cfg, hled.trans h.led, ?_, (tick_pd_length htick).trans h.pd_length, fun c hc => ?_⟩
  · have hnow := h.cur
    rw [hcur]
    bv_omega
  · have hnow := h.countdown c hc
    rw [tick_readCounter htick hc]
    split
    next h7 =>
      have hlast := h.cur_eq_seven_iff.mp h7
      rw [satdec_toNat]
      omega
    next h7 =>
      have hlast := mt h.cur_eq_seven_iff.mpr h7
      omega

/-- Every run of TICKs from a good configuration completes (R75). -/
theorem afterTicks_ticked {s : State} (hwf : configWf s.cfg = true) (n : Nat) :
    ∃ u, afterTicks n s = .next u ∧ TickedFrom s n u := by
  induction n with
  | zero => exact ⟨s, rfl, TickedFrom.zero s⟩
  | succ n ih =>
    obtain ⟨u, hrun, hu⟩ := ih
    obtain ⟨b, hlast, -⟩ := tick_cases u
    exact ⟨_, afterTicks_succ_last hwf hrun hlast, hu.tick hlast⟩

/-- A run of at least one TICK, with its last TICK shown. -/
theorem afterTicks_last {s : State} (hwf : configWf s.cfg = true) {n : Nat} (hn : 1 ≤ n) :
    ∃ u v, TickedFrom s (n - 1) u ∧ exec .tick u = .next v ∧ afterTicks n s = .next v := by
  obtain ⟨m, rfl⟩ := Nat.exists_eq_add_of_le' hn
  obtain ⟨u, hrun, hu⟩ := afterTicks_ticked hwf m
  obtain ⟨b, hlast, -⟩ := tick_cases u
  exact ⟨u, _, hu, hlast, afterTicks_succ_last hwf hrun hlast⟩

/-! ## The cursor and the wake clock -/

theorem afterTicks_cur_iff {s : State} (hwf : configWf s.cfg = true) (n : Nat) (k : Slot) :
    (∃ t, afterTicks n s = .next t ∧ t.cur = k) ↔ (s.cur.toNat + n) % 8 = k.toNat := by
  obtain ⟨u, hrun, hu⟩ := afterTicks_ticked hwf n
  rw [← hu.cur, BitVec.toNat_inj]
  constructor
  · rintro ⟨t, ht, hk⟩
    cases hrun.symm.trans ht
    exact hk
  · exact fun hk => ⟨u, hrun, hk⟩

/-- Settles O42: the cursor after j TICKs is j slots on, and 8 consecutive numbers have each remainder once. -/
theorem eightTicksServiceEverySlotOnce : Obligations.EightTicksServiceEverySlotOnce := by
  intro s hwf
  simp only [afterTicks_cur_iff hwf]
  have hcur : s.cur.toNat < 8 := s.cur.isLt
  refine ⟨fun k => ?_, ?_⟩
  · have hk : k.toNat < 8 := k.isLt
    refine ⟨⟨(k.toNat + 8 - s.cur.toNat) % 8, by omega⟩, by dsimp only; omega, fun j hj => ?_⟩
    apply Fin.ext
    dsimp only at hj ⊢
    omega
  · refine ⟨⟨7 - s.cur.toNat, by omega⟩, ?_, fun j hj => ?_⟩
    · show (s.cur.toNat + (7 - s.cur.toNat + 1)) % 8 = 0
      omega
    · have hj' : (s.cur.toNat + (j.val + 1)) % 8 = 0 := hj
      apply Fin.ext
      show j.val = 7 - s.cur.toNat
      omega

theorem tick_wake_toNat {s u v : State} {n : Nat} (hwf : configWf s.cfg = true) (h : TickedFrom s n u)
    (htick : exec .tick u = .next v)
    (hwake : u.wake.toNat = (s.wake.toNat + (s.cur.toNat + n) / 8) % 2 ^ s.cfg.wWake) :
    v.wake.toNat = (s.wake.toNat + (s.cur.toNat + (n + 1)) / 8) % 2 ^ s.cfg.wWake := by
  have hw : s.cfg.wWake ≤ 32 := (width_le_of_wf hwf .wake).2
  rw [tick_wake htick, h.cfg]
  split
  next h7 =>
    have hlast := h.cur_eq_seven_iff.mp h7
    have hepoch : (s.cur.toNat + (n + 1)) / 8 = (s.cur.toNat + n) / 8 + 1 := by omega
    rw [incTo_toNat hw, hwake, hepoch, Nat.mod_add_mod, Nat.add_assoc]
  next h7 =>
    have hlast := mt h.cur_eq_seven_iff.mpr h7
    have hsame : (s.cur.toNat + (n + 1)) / 8 = (s.cur.toNat + n) / 8 := by omega
    rw [hwake, hsame]

theorem afterTicks_wake {s : State} (hs : Legal s) (n : Nat) :
    ∃ u, afterTicks n s = .next u ∧ TickedFrom s n u ∧
      u.wake.toNat = (s.wake.toNat + (s.cur.toNat + n) / 8) % 2 ^ s.cfg.wWake := by
  obtain ⟨hwf, ⟨-, -, -, -, -, hwake⟩, -⟩ := hs
  induction n with
  | zero =>
    refine ⟨s, rfl, TickedFrom.zero s, ?_⟩
    rw [Nat.add_zero, Nat.div_eq_of_lt s.cur.isLt, Nat.add_zero, Nat.mod_eq_of_lt hwake]
  | succ n ih =>
    obtain ⟨u, hrun, hu, hnow⟩ := ih
    obtain ⟨b, hlast, -⟩ := tick_cases u
    exact ⟨_, afterTicks_succ_last hwf hrun hlast, hu.tick hlast, tick_wake_toNat hwf hu hlast hnow⟩

/-- Settles O45 by `afterTicks_wake`. -/
theorem wakeClockCountsTheEpochs : Obligations.WakeClockCountsTheEpochs := by
  intro n s hs
  obtain ⟨u, hrun, hu, hwake⟩ := afterTicks_wake hs n
  exact ⟨u, hrun, hu.cur, hwake⟩

/-! ## The countdowns -/

/-- A countdown at 0 stays there. -/
theorem TickedFrom.countdown_zero {s u : State} {n : Nat} (h : TickedFrom s n u) {c : Counter} (hc : c ≠ .wake)
    (hzero : readCounter c s = 0) : readCounter c u = 0 := by
  have hnow := h.countdown c hc
  rw [hzero] at hnow
  exact BitVec.eq_of_toNat_eq (hnow.trans (Nat.zero_sub _))

/-- Settles O43: the launch state is legal with its cursor, wake clock and countdowns at 0. -/
theorem epochArithmeticFromReset : Obligations.EpochArithmeticFromReset := by
  intro n c hwf
  obtain ⟨u, hrun, hu, hwake⟩ := afterTicks_wake (resetWith_legal hwf) n
  refine ⟨u, hrun, ?_, ?_, ?_, ?_, ?_, ?_⟩
  · simpa using hu.cur
  · simpa using hwake
  · rw [List.eq_replicate_iff]
    refine ⟨hu.pd_length.trans List.length_replicate, fun x hx => ?_⟩
    obtain ⟨i, hi, rfl⟩ := List.getElem_of_mem hx
    have hzero : readCounter (.pd i) (State.resetWith c) = 0 := by
      simp only [readCounter, resetWith_pd, List.getD_eq_getElem?_getD, List.getElem?_replicate]
      split <;> rfl
    have hread : readCounter (.pd i) u = u.pd[i] := by simp [readCounter, hi]
    exact hread.symm.trans (hu.countdown_zero (by simp) hzero)
  · exact hu.countdown_zero (c := .deb0) (by simp) rfl
  · exact hu.countdown_zero (c := .deb1) (by simp) rfl
  · exact hu.countdown_zero (c := .shut) (by simp) rfl

/-- Settles O44: the countdown starts at the written value, and the TICKs take the epochs off it. -/
theorem armedCountdownExpiresAfterItsEpochs : Obligations.ArmedCountdownExpiresAfterItsEpochs := by
  intro n s t sel v x hs h hsel
  obtain ⟨hwf, hfit, -⟩ := hs
  obtain ⟨hcfg, -⟩ := exec_environment h
  obtain ⟨hcur, -⟩ := hostCommand_driver rfl h
  obtain ⟨hx, hread⟩ := readCounter_tmrWr hfit h hsel
  obtain ⟨u, hrun, hu⟩ := afterTicks_ticked (hcfg ▸ hwf) n
  have hnow := hu.countdown x hx
  rw [hread, hcur, truncTo_toNat] at hnow
  refine ⟨u, hrun, hnow, fun hpos => ?_⟩
  have hc : s.cur.toNat < 8 := s.cur.isLt
  rw [← BitVec.toNat_inj, hnow]
  show _ = 0 ↔ _
  omega

/-- A value that fits is written whole. -/
theorem tmrWr_fitting {s : State} (hfit : CountersFit s) {sel : Selector} {x : Counter} (hne : sel ≠ 0xF)
    (hsel : selected s.cfg.npat sel = some x) {r : Word32} (hr : r.toNat < 2 ^ widthOf s.cfg x) :
    ∃ t, exec (.tmrWr sel r) s = .next t ∧ t.cur = s.cur ∧ readCounter x t = r := by
  have h := exec_tmrWr_of_selected hne hsel r
  refine ⟨_, h, (hostCommand_driver rfl h).1, ?_⟩
  rw [(readCounter_tmrWr hfit h hsel).2, truncTo_of_fits hr]

/-- Settles O49: the value read fits, so it is written back whole; the epoch TICK takes one off what stands before it. -/
theorem readThenWriteBackLosesAnEpoch : Obligations.ReadThenWriteBackLosesAnEpoch := by
  rintro s t sel r x ⟨-, hfit, -⟩ h7 hne h hr hsel
  have hrfit : (readCounter x s).toNat < 2 ^ widthOf s.cfg x := ((countersFit_iff s).mp hfit).2 x
  cases (exec_tmrRd_of_selected hsel).symm.trans h
  cases hr
  constructor
  · obtain ⟨b, hb, -⟩ := tick_cases (deliver (readCounter x s) (beginOp s))
    obtain ⟨-, hcfg, -⟩ := tick_outside hb
    obtain ⟨c, hc, -, hread⟩ := tmrWr_fitting (tick_countersFit hb hfit) hne (hcfg ▸ hsel) (hcfg ▸ hrfit)
    exact ⟨_, c, hb, hc, hread⟩
  · obtain ⟨a, ha, hcur, hread⟩ := tmrWr_fitting (exec_countersFit h hfit) hne hsel hrfit
    obtain ⟨b, hb, -⟩ := tick_cases a
    obtain ⟨hx, -⟩ := readCounter_tmrWr (exec_countersFit h hfit) ha hsel
    refine ⟨a, _, ha, hb, ?_⟩
    rw [tick_readCounter hb hx, if_pos (hcur.trans h7), hread, satdec_toNat]

/-! ## What is lit after TICKs -/

/-- The bus a TICK leaves lights the LED of the serviced slot, if that is requested, and no other. -/
theorem tick_lit {s t : State} (hwf : configWf s.cfg = true) (h : exec .tick s = .next t) :
    litBy t.cfg (busNow t) = if s.led.getLsbD s.cur.toNat = true then [s.cur] else [] := by
  obtain ⟨-, hcfg, -⟩ := tick_outside h
  rcases tick_bus h with ⟨hbit, -, hdir, hlvl⟩ | ⟨hbit, -, hdir, hlvl⟩ <;> rw [hcfg, busNow, hdir, hlvl, hbit]
  · exact lit_row hwf s.cur
  · exact lit_of_levels_low _ _

/-- No snapshot of a TICK, and no bus it leaves, lights a slot that is not requested. -/
theorem tick_not_lit {s t : State} (hwf : configWf s.cfg = true) (h : exec .tick s = .next t) {k : Slot}
    (hk : s.led.getLsbD k.toNat = false) :
    k ∉ litBy t.cfg (busNow t) ∧ ∀ p ∈ t.pinTrace, k ∉ litBy t.cfg p := by
  obtain ⟨-, hcfg, -⟩ := tick_outside h
  have hne : s.led.getLsbD s.cur.toNat = true → k ≠ s.cur := by
    rintro hon rfl
    exact absurd (hon.symm.trans hk) (by decide)
  constructor
  · rw [tick_lit hwf h]
    split
    next hon => simpa using hne hon
    next => exact List.not_mem_nil
  · intro p hp
    rw [hcfg]
    rcases tick_snapshot_lit hwf h hp with e | ⟨hon, e⟩ <;> rw [e]
    · exact List.not_mem_nil
    · simpa using hne hon

/-- Settles O46: after LED.SET k the last TICK's slot is lit if it is k; which TICK services k is counted modulo 8. -/
theorem ledSetShowsWithinEightTicks : Obligations.LedSetShowsWithinEightTicks := by
  intro n s t k hwf h hn
  obtain ⟨hcfg, -⟩ := exec_environment h
  obtain ⟨hcur, -⟩ := hostCommand_driver rfl h
  have hbit : t.led.getLsbD k.toNat = true := by rw [exec_led h, ledAfter, setLed_bit, if_pos rfl]
  have hwf' : configWf t.cfg = true := hcfg ▸ hwf
  obtain ⟨u, v, hu, hlast, hrun⟩ := afterTicks_last hwf' hn
  have hlit := tick_lit (hu.cfg ▸ hwf') hlast
  rw [hu.led] at hlit
  have hslot : u.cur = k ↔ n % 8 = ((k - s.cur).toNat + 1) % 8 := by
    have hnow := hu.cur
    rw [hcur] at hnow
    bv_omega
  have hmem : k ∈ litBy v.cfg (busNow v) ↔ u.cur = k := by
    rw [hlit]
    constructor
    · intro hk
      split at hk
      · exact (List.mem_singleton.mp hk).symm
      · exact absurd hk List.not_mem_nil
    · rintro rfl
      rw [if_pos hbit]
      exact List.mem_singleton_self _
  refine ⟨v, hrun, hmem.trans hslot, fun hn' => ?_, fun hn' hk => ?_⟩
  · have hk : u.cur = k := hslot.mpr (by rw [hn'])
    rw [hlit, hk, if_pos hbit]
  · have hlt := (k - s.cur).isLt
    have hmod := hslot.mp (hmem.mp hk)
    omega

/-- Settles O47: LED.CLR moves no pin, and every later TICK finds bit k at 0. -/
theorem ledClrShowsAtTheNextTick : Obligations.LedClrShowsAtTheNextTick := by
  intro n s t k hwf h
  obtain ⟨hcfg, -⟩ := exec_environment h
  obtain ⟨-, hdir, hlvl⟩ := hostCommand_driver rfl h
  refine ⟨by rw [busNow, busNow, hdir, hlvl], fun hn => ?_⟩
  have hbit : t.led.getLsbD k.toNat = false := by rw [exec_led h, ledAfter, clrLed_bit, if_pos rfl]
  have hwf' : configWf t.cfg = true := hcfg ▸ hwf
  obtain ⟨u, v, hu, hlast, hrun⟩ := afterTicks_last hwf' hn
  exact ⟨v, hrun, tick_not_lit (hu.cfg ▸ hwf') hlast (hu.led ▸ hbit)⟩

/-- Settles O48: with the bitmask at 0 no TICK applies a row, so each leaves the baseline. -/
theorem allOffSettlesAtTheNextTick : Obligations.AllOffSettlesAtTheNextTick := by
  intro n s t hwf h hn
  obtain ⟨hcfg, -⟩ := exec_environment h
  have hled : t.led = 0 := exec_led h
  obtain ⟨u, v, hu, hlast, hrun⟩ := afterTicks_last (hcfg ▸ hwf) hn
  have hbus : busNow v = ⟨0b1111, 0b0000⟩ := by
    rcases tick_bus hlast with ⟨hon, -⟩ | ⟨-, -, hdir, hlvl⟩
    · rw [hu.led, hled] at hon
      simp at hon
    · rw [busNow, hdir, hlvl]
  refine ⟨v, hrun, hbus, ?_⟩
  rw [hbus]
  exact lit_of_levels_low _ _

end Sys2Proof.Machine
